-- ==== Sys2Proof/Word.lean ====
section
/-! DEFINITION. The words that links and bus carry (8, 16 and 32 bits) and a pair with one value for each port. -/

namespace Sys2Proof

/-- One byte on a link or on the downstream bus. -/
abbrev Byte := BitVec 8

/-- A 16-bit field: a length, an epoch, a check, an accumulator, a count that saturates at 65535. -/
abbrev Half := BitVec 16

/-- A 32-bit field: a logical address, a physical base, a window or device number (00 section 5; 12 section 12.4). -/
abbrev Word := BitVec 32

/-- The two ports; port A is the port of link A (00 section 5). -/
inductive Port where
  | A
  | B
  deriving DecidableEq, Repr

/-- "The other port" is the port that is not named (00 section 5). -/
def Port.other : Port → Port
  | .A => .B
  | .B => .A

/-- One value for each port. -/
structure PerPort (α : Type) where
  a : α
  b : α
  deriving DecidableEq, Repr

namespace PerPort

variable {α : Type}

/-- The value held for port p. -/
def get (x : PerPort α) : Port → α
  | .A => x.a
  | .B => x.b

/-- The pair with the value for port p replaced. -/
def set (x : PerPort α) (p : Port) (v : α) : PerPort α :=
  match p with
  | .A => { x with a := v }
  | .B => { x with b := v }

@[simp] theorem get_set_self (x : PerPort α) (p : Port) (v : α) : (x.set p v).get p = v := by
  cases p <;> rfl

@[simp] theorem get_set_other (x : PerPort α) (p : Port) (v : α) :
    (x.set p v).get p.other = x.get p.other := by
  cases p <;> rfl

theorem get_set_ne (x : PerPort α) {p q : Port} (v : α) (h : q ≠ p) : (x.set p v).get q = x.get q := by
  cases p <;> cases q <;> first | rfl | exact absurd rfl h

theorem get_set (x : PerPort α) (p q : Port) (v : α) :
    (x.set p v).get q = if q = p then v else x.get q := by
  cases p <;> cases q <;> rfl

@[simp] theorem set_set (x : PerPort α) (p : Port) (v w : α) : (x.set p v).set p w = x.set p w := by
  cases p <;> rfl

@[simp] theorem set_get (x : PerPort α) (p : Port) : x.set p (x.get p) = x := by
  cases p <;> rfl

end PerPort

/-- The four devices, device n on device select n (00 section 5). -/
abbrev Device := Fin 4

/-- The sixteen window entries (01, opening). -/
abbrev WindowNo := Fin 16

/-- The devices in the order in which the arbiter ranks them, lowest number first (R95). -/
def allDevices : List Device := [0, 1, 2, 3]

end Sys2Proof
end

