-- ==== Sys2Proof/Syntax.lean ====
section
/-! DEFINITION. The commands of the block: one constructor for each row of spec/opcode_table.json, and the two
records that WINDOW_WRITE and PROFILE_WRITE carry, field by field as 12 section 12.3 lays them out. -/

namespace Sys2Proof.Machine

/-- The window record of 12 section 12.3, as its 24 bytes code it. -/
structure WindowRecord where
  state : Byte
  owners : Byte
  device : Byte
  flags : Byte
  rightsA : Byte
  rightsB : Byte
  useCount : Half
  logicalBase : Word
  /-- In units of 4 KiB. -/
  size : Word
  bank0 : Word
  bank1 : Word
  deriving DecidableEq, Repr

/-- One erase unit of the profile record: size as a power of two, command, time limit in ms. -/
structure UnitRecord where
  size : Byte
  command : Byte
  limit : Half
  deriving DecidableEq, Repr

/-- The profile record of 12 section 12.3, as its 40 bytes code it. -/
structure ProfileRecord where
  present : Byte
  capacity : Byte
  addressBytes : Byte
  pageSize : Byte
  readCommand : Byte
  readDummy : Byte
  writeEnable : Byte
  programCommand : Byte
  programLimit : Half
  statusCommand : Byte
  busyBit : Byte
  errorBit : Byte
  suspendedBit : Byte
  suspendFlags : Byte
  suspendCommand : Byte
  resumeCommand : Byte
  suspendLimit : Byte
  settleLimit : Half
  pollInterval : Half
  unitCount : Byte
  unit1 : UnitRecord
  unit2 : UnitRecord
  unit3 : UnitRecord
  resetCount : Byte
  resetCode1 : Byte
  resetCode2 : Byte
  resetSettle : Half
  deriving DecidableEq, Repr

end Sys2Proof.Machine

namespace Sys2Proof

open Machine (WindowRecord ProfileRecord)

/-- The commands. Each request constructor names the port and the tag first: it is the request of a valid
frame on that port's link, handed to intake (assumption 8). -/
inductive Instr where
  /-- COLD_START (R185): power-on, with the reset pin held or not, and the selects of link A and link B
  asserted or not, at power-on. -/
  | coldStart (pinHeld selectA selectB : Bool)
  /-- COLD_START_END (R185). -/
  | coldStartEnd
  /-- POWER_OFF (R185). -/
  | powerOff
  /-- TIME_BASE_TICK (R193). -/
  | timeBaseTick
  /-- FRAME_BEGIN (R151): the host asserts the select of the link. -/
  | frameBegin (port : Port)
  /-- FRAME_END (R153): the host releases the select, some clock periods (0 to 7) after the last whole byte. -/
  | frameEnd (port : Port) (extraClocks : Fin 8)
  /-- NULL (R115). -/
  | null (port : Port) (tag : Byte)
  /-- READ (R8): logical address and number of bytes. -/
  | read (port : Port) (tag : Byte) (address : Word) (length : Half)
  /-- PROGRAM (R8): logical address and the data bytes of the payload. -/
  | program (port : Port) (tag : Byte) (address : Word) (data : List Byte)
  /-- ERASE (R16): logical address and size in KiB. -/
  | erase (port : Port) (tag : Byte) (address : Word) (sizeKiB : Half)
  /-- WINDOW_WRITE (R20). -/
  | windowWrite (port : Port) (tag : Byte) (number : Word) (record : WindowRecord)
  /-- WINDOW_READ (R23). -/
  | windowRead (port : Port) (tag : Byte) (number : Word)
  /-- PROFILE_WRITE (R35). -/
  | profileWrite (port : Port) (tag : Byte) (number : Word) (record : ProfileRecord)
  /-- PROFILE_READ (R37). -/
  | profileRead (port : Port) (tag : Byte) (number : Word)
  /-- SWAP (R24). -/
  | swap (port : Port) (tag : Byte) (number : Word)
  /-- FREEZE (R162). -/
  | freeze (port : Port) (tag : Byte)
  /-- HANDOVER (R160). -/
  | handover (port : Port) (tag : Byte)
  /-- STATUS_READ (R164). -/
  | statusRead (port : Port) (tag : Byte) (clear : Bool)
  /-- ABORT (R171). -/
  | abort (port : Port) (tag : Byte) (target : Port) (targetTag : Byte)
  /-- WARM_RESET (R177). -/
  | warmReset (port : Port) (tag : Byte) (epoch : Half)
  /-- CLEAR_STEP (R180). -/
  | clearStep
  /-- RESET_SEQUENCE_END (R182). -/
  | resetSequenceEnd
  /-- RESET_PIN_ASSERT (R183). -/
  | resetPinAssert
  /-- RESET_PIN_RELEASE (R183). -/
  | resetPinRelease
  /-- BUS_GRANT (R95). -/
  | busGrant
  /-- READ_JOB_COMPLETE (R105): the bytes the device drives in the data phase, first byte first; the job takes
  in as many as the request names, and the lines show a free byte where the device drives none. -/
  | readJobComplete (driven : List Byte)
  /-- START_JOB_COMPLETE (R54). -/
  | startJobComplete
  /-- POLL_COMPLETE (R57): the status byte, or none where the device does not answer. -/
  | pollComplete (status : Option Byte)
  /-- SUSPEND_COMPLETE (R76). -/
  | suspendComplete
  /-- RESUME_COMPLETE (R88). -/
  | resumeComplete
  /-- RESET_JOB_COMPLETE (R63). -/
  | resetJobComplete
  /-- POLL_TIMER_EXPIRY (R56). -/
  | pollTimerExpiry (device : Device)
  /-- DEADLINE_EXPIRY (R60). -/
  | deadlineExpiry (device : Device)
  /-- SUSPEND_SETTLE_EXPIRY (R79). -/
  | suspendSettleExpiry (device : Device)
  /-- RESET_SETTLE_EXPIRY (R64). -/
  | resetSettleExpiry (device : Device)
  /-- INBOUND_BYTE (R143). -/
  | inboundByte (port : Port) (byte : Byte)
  /-- CLK_PERIOD (R193). -/
  | clkPeriod
  deriving DecidableEq, Repr

end Sys2Proof
end

