-- ==== Sys2Proof/Config.lean ====
section
/-! DEFINITION. The fixed sizes the spec gives the part, and the two free values of the model. -/

namespace Sys2Proof.Config

/-- Messages and reservations of one port together (R132). -/
def outboundCapacity : Nat := 8

/-- Waiting requests of one port queue (R125). -/
def queueCapacity : Nat := 4

/-- Inbound bytes of a frame that the link holds; the byte count stops one above (R143). -/
def heldBytes : Nat := 266

/-- The fewest bytes of a valid frame (R144). -/
def minFrameBytes : Nat := 10

/-- The unit of window sizes and of physical bases: 4 KiB (01 section 1.1; 12 section 12.3). -/
def windowUnit : Nat := 4096

/-- The logical address space of a port, 4 GiB (00 section 5). -/
def addressSpace : Nat := 2 ^ 32

/-- CLK periods for one tick of the time base (R193). -/
def clkPerTick : Nat := 64

/-- Fill byte of the outbound stream, and what the controller drives while it takes data in or sends
dummy bytes (R41, R151). -/
def fillByte : Byte := 0xFF#8

/-- FREE VALUE (assumption 11): the byte the downstream data lines show when no device drives them, for
the n-th such byte. R38 and R105 let the machine go on with "whatever byte the bus lines show" and name
no value. -/
opaque busLineByte : Nat → Byte

/-- FREE VALUE (assumption 24): the byte a link's outbound data line carries in a select period that is not a frame
(R143), for the n-th free value taken. The line is driven while the select is asserted (12 section 12.8) and the
spec names no content there. -/
opaque unframedByte : Nat → Byte

end Sys2Proof.Config
end

