-- ==== Sys2Proof/Machine/State.lean ====
section
/-! DEFINITION. The state of the part, block by block as 00 section 3 lists the blocks, and its value after reset. -/

namespace Sys2Proof.Machine

/-! ## Names of kinds, states and codes (12 section 12.5 gives their code values) -/

/-- The fourteen request kinds (R112). -/
inductive RequestKind where
  | null | read | program | erase | windowWrite | windowRead | profileWrite | profileRead
  | swap | freeze | handover | abort | statusRead | warmReset
  deriving DecidableEq, Repr

/-- The status codes of a response (R133). -/
inductive Status where
  | done | pending | denied | noWindow | boundary | swapPending | noDevice | deviceFault
  | outOfDevice | pageCross | misaligned | badLength | deviceError | timeout | aborted | lost
  | notManager | frozen | inUse | deviceBusy | overlap | badArgument | notFound | staleEpoch
  deriving DecidableEq, Repr

/-- The receipt codes (R149). -/
inductive ReceiptCode where
  | none | accepted | idleFrame | badFrame | unknownKind | tagBusy | queueFull | noSlot | resetting
  deriving DecidableEq, Repr

/-- The part state (R168). -/
inductive PartState where
  | operating
  | resetting
  deriving DecidableEq, Repr

/-- Whether the part is powered, and whether cold start has ended (R185). -/
inductive Power where
  /-- No power: nothing of the part's state outlives the power-off. -/
  | off
  /-- Power-on has happened and cold start has not ended. -/
  | coldStart
  /-- Cold start has ended. -/
  | on
  deriving DecidableEq, Repr

/-! ## Window table (01 section 1.1) -/

/-- A rights set, a subset of READ, PROGRAM and ERASE (R2). -/
structure Rights where
  read : Bool
  program : Bool
  erase : Bool
  deriving DecidableEq, Repr

/-- The empty rights set. -/
def Rights.empty : Rights := { read := false, program := false, erase := false }

/-- The two banks of a bank pair (R3). -/
inductive Bank where
  | bank0
  | bank1
  deriving DecidableEq, Repr

/-- A window entry (R1). The size is in bytes. -/
structure Window where
  active : Bool
  owners : PerPort Bool
  logicalBase : Word
  size : Nat
  device : Device
  bank0 : Word
  bank1 : Option Word
  activeBank : Bank
  rights : PerPort Rights
  swapOpen : Bool
  report : Bool
  useCount : Nat
  swapPending : Bool
  deriving DecidableEq, Repr

/-- An EMPTY window (R1). R1 does not name its size and device: they read 0 (assumption 12). -/
def Window.empty : Window where
  active := false
  owners := { a := false, b := false }
  logicalBase := 0
  size := 0
  device := 0
  bank0 := 0
  bank1 := Option.none
  activeBank := .bank0
  rights := { a := .empty, b := .empty }
  swapOpen := false
  report := false
  useCount := 0
  swapPending := false

/-! ## Profile table (02 section 2.1) -/

/-- One erase unit: size as a power of two, command, time limit in µs (R29). -/
structure EraseUnit where
  sizeLog : Nat
  command : Byte
  limit : Nat
  deriving DecidableEq, Repr

/-- A profile entry (R28). Capacity and page size are held as powers of two, as their record codes them. -/
structure Profile where
  present : Bool
  capacityLog : Nat
  addressBytes : Nat
  pageLog : Nat
  readCommand : Byte
  readDummy : Nat
  writeEnable : Byte
  programCommand : Byte
  eraseUnits : List EraseUnit
  programLimit : Nat
  statusCommand : Byte
  busyBit : Nat
  errorBit : Option Nat
  suspendedBit : Option Nat
  /-- The suspend and the resume command, both present or both absent. -/
  suspendResume : Option (Byte × Byte)
  suspendProgramAllowed : Bool
  suspendEraseAllowed : Bool
  programInEraseSuspend : Bool
  suspendLimit : Nat
  settleLimit : Nat
  pollInterval : Nat
  resetSequence : List Byte
  resetSettle : Nat
  deriving DecidableEq, Repr

/-- An absent profile entry: every other field zero, the optional ones absent, the lists empty (R28). -/
def Profile.absent : Profile where
  present := false
  capacityLog := 0
  addressBytes := 0
  pageLog := 0
  readCommand := 0
  readDummy := 0
  writeEnable := 0
  programCommand := 0
  eraseUnits := []
  programLimit := 0
  statusCommand := 0
  busyBit := 0
  errorBit := Option.none
  suspendedBit := Option.none
  suspendResume := Option.none
  suspendProgramAllowed := false
  suspendEraseAllowed := false
  programInEraseSuspend := false
  suspendLimit := 0
  settleLimit := 0
  pollInterval := 0
  resetSequence := []
  resetSettle := 0

/-! ## Memory requests and op records -/

/-- What a translated memory request asks of its device, with what its kind carries (R17). -/
inductive Work where
  | read
  | program (data : List Byte)
  /-- The erase unit's number, 1 to 3 (R16). -/
  | erase (unit : Nat)
  deriving DecidableEq, Repr

/-- A translated memory request: an entry of a port queue, and what a request job holds (R17, R125). -/
structure Request where
  port : Port
  tag : Byte
  work : Work
  window : WindowNo
  device : Device
  start : Nat
  count : Nat
  deriving DecidableEq, Repr

/-- The kinds of an op record (03 section 3.2). -/
inductive OpKind where
  | program
  | erase
  deriving DecidableEq, Repr

/-- The states of an op record (R72). -/
inductive RecordState where
  | running
  | suspending
  | suspended
  deriving DecidableEq, Repr

/-- The end statuses of an op record (R51). -/
inductive EndStatus where
  | done
  | deviceError
  | timeout
  | aborted
  | lost
  deriving DecidableEq, Repr

/-- An op record (03 section 3.2, R50). -/
structure OpRecord where
  port : Port
  tag : Byte
  kind : OpKind
  start : Nat
  length : Nat
  unit : Option Nat
  window : WindowNo
  limit : Nat
  state : RecordState
  busyTime : Nat
  suspendCount : Nat
  abortMark : Bool
  /-- The model's own: the tick that would bring the busy time to the limit has come, and the event at which it
  reaches the limit, the deadline expiry, has not yet been taken (R55, R61, assumption 10). -/
  deadlineDue : Bool
  endStatus : Option EndStatus
  deriving DecidableEq, Repr

/-! ## Device trackers (03) -/

/-- The seven tracker states (R48). -/
inductive TrackerState where
  | offline | idle | running | suspending | suspended | recovering | faulted
  deriving DecidableEq, Repr

/-- The recovery causes; no cause is `none` of the option (R62). -/
inductive Cause where
  | timeout
  | aborted
  deriving DecidableEq, Repr

/-- A device tracker (03, opening table). A timer is disarmed, or holds the µs it still counts down. -/
structure Tracker where
  state : TrackerState
  /-- Top record first. -/
  stack : List OpRecord
  wantPoll : Bool
  wantSuspend : Bool
  wantResume : Bool
  wantReset : Bool
  pollTimer : Option Nat
  suspendSettle : Option Nat
  resetSettle : Option Nat
  cause : Option Cause
  timeouts : Nat
  refCount : Nat
  deriving DecidableEq, Repr

/-- A tracker after cold start (R68). -/
def Tracker.cold : Tracker where
  state := .offline
  stack := []
  wantPoll := false
  wantSuspend := false
  wantResume := false
  wantReset := false
  pollTimer := Option.none
  suspendSettle := Option.none
  resetSettle := Option.none
  cause := Option.none
  timeouts := 0
  refCount := 0

/-! ## Downstream bus (02 section 2.5, 05) -/

/-- The jobs a tracker may want (R49). -/
inductive TrackerJob where
  | poll
  | suspend
  | resume
  | reset
  deriving DecidableEq, Repr

/-- What the job record names: a request job with its request and abort mark (R102, R103), or a tracker's
job for its device. -/
inductive JobKind where
  | request (r : Request) (aborted : Bool)
  | tracker (k : TrackerJob) (d : Device)
  deriving DecidableEq, Repr

/-- One select period of a job: the device select, the bytes sent, and how many bytes are taken in (R41). -/
structure SelectPeriod where
  device : Device
  sent : List Byte
  takes : Nat
  deriving DecidableEq, Repr

/-- The bus job in progress (R42), with the select periods the controller performs for it. -/
structure Job where
  kind : JobKind
  selects : List SelectPeriod
  deriving DecidableEq, Repr

/-! ## Outbound unit (07) -/

/-- What one device reports in a status record (R71). -/
structure DeviceStatus where
  state : TrackerState
  depth : Nat
  top : Option OpKind
  timeouts : Nat
  refCount : Nat
  deriving DecidableEq, Repr

/-- What one port reports in a status record (R164). -/
structure PortStatus where
  occupancy : Nat
  reservations : Nat
  outbound : Nat
  badFrames : Half
  denials : Half
  deriving DecidableEq, Repr

/-- The status record of STATUS_READ (R164). -/
structure StatusRecord where
  epoch : Half
  manager : Port
  frozen : Bool
  part : PartState
  devices : Vector DeviceStatus 4
  ports : PerPort PortStatus
  deriving DecidableEq, Repr

/-- The data of a response: absent, or one of the four kinds of R131. -/
inductive ResponseData where
  | absent
  | bytes (l : List Byte)
  | window (r : WindowRecord)
  | profile (r : ProfileRecord)
  | status (r : StatusRecord)
  deriving DecidableEq, Repr

/-- A notice with its accumulator (R135). -/
inductive Notice where
  | resetDone (epoch : Half)
  | deviceFault (mask : Half)
  | swapDone (mask : Half)
  | managerChanged (manager : Port)
  | denial (count : Nat)
  deriving DecidableEq, Repr

/-- A message of an outbound queue, held as its content (R131). -/
inductive Message where
  | response (kind : RequestKind) (tag : Byte) (status : Status) (data : ResponseData)
  | notice (n : Notice)
  deriving DecidableEq, Repr

/-- The pending-notice set: for each kind at most one pending notice, held as its accumulator (R135). -/
structure NoticeSet where
  resetDone : Option Half
  deviceFault : Option Half
  swapDone : Option Half
  managerChanged : Option Port
  denial : Option Nat
  deriving DecidableEq, Repr

/-- The empty pending-notice set. -/
def NoticeSet.empty : NoticeSet where
  resetDone := Option.none
  deviceFault := Option.none
  swapDone := Option.none
  managerChanged := Option.none
  denial := Option.none

/-- The outbound unit of a port (07, opening). -/
structure Outbound where
  /-- Oldest message first. -/
  queue : List Message
  reservations : Nat
  notices : NoticeSet
  /-- Asserted or not. -/
  attention : Bool
  deriving DecidableEq, Repr

/-- An outbound unit with nothing in it (R141). -/
def Outbound.empty : Outbound where
  queue := []
  reservations := 0
  notices := .empty
  attention := false

/-! ## Host link unit (08) -/

/-- The receipt register (R149). -/
structure Receipt where
  tag : Byte
  code : ReceiptCode
  deriving DecidableEq, Repr

/-- The receipt register after a reset: (00h, NONE) (R149). -/
def Receipt.cleared : Receipt := { tag := 0, code := .none }

/-- A frame in progress (R143, R151). -/
structure Frame where
  /-- The inbound bytes held, first byte first, at most the first 266. -/
  held : List Byte
  /-- The latched receipt and message bytes; every later stream byte is fill. -/
  stream : List Byte
  /-- The size of the latched message, if one was latched. -/
  latched : Option Nat
  deriving DecidableEq, Repr

/-- The select of a link (R143). -/
inductive Select where
  | released
  /-- Asserted, in a select period that is not a frame. -/
  | ignored
  | frame (f : Frame)
  deriving DecidableEq, Repr

/-- The link unit of a port. -/
structure Link where
  receipt : Receipt
  badFrames : Half
  /-- The frame-in-progress byte count, which stops at 267 (R143). It keeps its value from a frame's end to the next
  beginning (assumption 25). -/
  count : Nat
  select : Select
  /-- DOUT: the byte shifted out last in the select period in progress. -/
  dout : Option Byte
  /-- DOUT past the last whole byte of the select period that ended last: the leading bits of the next stream byte,
  in the order shifted (R151). -/
  doutBits : List Bool
  deriving DecidableEq, Repr

/-- A link unit at power-on with its select released or asserted (R156). -/
def Link.cold (selectAsserted : Bool) : Link where
  receipt := .cleared
  badFrames := 0
  count := 0
  select := if selectAsserted then .ignored else .released
  dout := Option.none
  doutBits := []

/-! ## The whole state -/

/-- The state of the part, with the queue of commands that wait. -/
structure State where
  /-- The model's own: commands not yet taken, first in first out (assumption 1). -/
  pending : List Instr
  power : Power
  /-- The reset input pin, asserted or not. -/
  resetPin : Bool
  part : PartState
  clearStep : Bool
  manager : Port
  frozen : Bool
  epoch : Half
  denials : PerPort Half
  windows : Vector Window 16
  profiles : Vector Profile 4
  trackers : Vector Tracker 4
  queues : PerPort (List Request)
  lastGranted : Port
  job : Option Job
  outbound : PerPort Outbound
  links : PerPort Link
  timeBase : Fin 64
  /-- The model's own: free values taken so far (assumption 11). -/
  freeCount : Nat
  deriving DecidableEq, Repr

/-- The machine stops with no fault: every refusal of the spec is a receipt code (R113) or a response status
(R133). Closed, without constructors: no meaning can raise one. -/
inductive Fault where
  deriving DecidableEq, Repr

/-- Why a command has no meaning. -/
inductive Refusal where
  /-- Raised by an arm of exec whose command is not modelled; safe. No arm raises it: every row has its
  meaning. -/
  | notModelled (mnemonic : String)
  deriving DecidableEq, Repr

/-- Every block at its cold value, in cold start or off (R185): windows EMPTY (R6), profiles absent (R34),
trackers OFFLINE (R68), queues, reservations and notice sets empty (R127, R141), last-granted port B (R93),
manager port A, frozen no, epoch 0, denial counts 0, clear-step flag no (R169), time base 0 (R193). The part
state is RESETTING until cold start ends (assumption 5). -/
def State.cold (power : Power) (pinHeld selectA selectB : Bool) (pending : List Instr) (freeCount : Nat) :
    State where
  pending := pending
  power := power
  resetPin := pinHeld
  part := .resetting
  clearStep := false
  manager := .A
  frozen := false
  epoch := 0
  denials := { a := 0, b := 0 }
  windows := Vector.replicate 16 .empty
  profiles := Vector.replicate 4 .absent
  trackers := Vector.replicate 4 .cold
  queues := { a := [], b := [] }
  lastGranted := .B
  job := Option.none
  outbound := { a := .empty, b := .empty }
  links := { a := .cold selectA, b := .cold selectB }
  timeBase := 0
  freeCount := freeCount

/-- The outbound unit at the end of cold start: RESET_DONE with epoch 0 queued, attention asserted (R141). -/
def Outbound.afterColdStart : Outbound :=
  { Outbound.empty with queue := [.notice (.resetDone 0)], attention := true }

/-- The machine right after reset: cold start has ended (R185), no pin held and no select asserted
(assumption 3). -/
def State.reset : State :=
  { State.cold .on false false false [] 0 with
    part := .operating
    outbound := { a := .afterColdStart, b := .afterColdStart } }

end Sys2Proof.Machine
end

