-- ==== Sys2Proof/Machine/Flags.lean ====
section
/-! DEFINITION. Counts that saturate, the pending-notice set and its merges, the moving of notices into the
outbound queue, and the attention line (07; R148, R166). -/

namespace Sys2Proof.Machine

/-- A 16-bit count raised by 1; it stays at 65535 (R148, R166). -/
def bumpHalf (c : Half) : Half := if c = 0xFFFF#16 then c else c + 1

/-- The top of a DENIAL accumulator (R136). -/
def denialTop : Nat := 255

/-- The mask with the one bit of a device set (R135). -/
def deviceBit (d : Device) : Half := 1#16 <<< d.val

/-- The mask with the one bit of a window set (R26, R135). -/
def windowBit (w : WindowNo) : Half := 1#16 <<< w.val

/-- A mask accumulator with further bits added, made afresh where no notice is pending (R136). -/
def mergeMask (pending : Option Half) (mask : Half) : Half := pending.getD 0 ||| mask

/-- A notice raised on a port: it makes a pending notice of its kind, or is merged into the pending one
(R135, R136). -/
def NoticeSet.raise (ns : NoticeSet) : Notice → NoticeSet
  | .resetDone e => { ns with resetDone := some e }
  | .deviceFault m => { ns with deviceFault := some (mergeMask ns.deviceFault m) }
  | .swapDone m => { ns with swapDone := some (mergeMask ns.swapDone m) }
  | .managerChanged p => { ns with managerChanged := some p }
  | .denial n => { ns with denial := some (min denialTop (ns.denial.getD 0 + n)) }

/-- The pending notice that is moved first, and the set without it: RESET_DONE, DEVICE_FAULT, SWAP_DONE,
MANAGER_CHANGED, DENIAL (R138). -/
def NoticeSet.takeFirst (ns : NoticeSet) : Option (Notice × NoticeSet) :=
  match ns.resetDone with
  | some e => some (.resetDone e, { ns with resetDone := Option.none })
  | Option.none =>
  match ns.deviceFault with
  | some m => some (.deviceFault m, { ns with deviceFault := Option.none })
  | Option.none =>
  match ns.swapDone with
  | some m => some (.swapDone m, { ns with swapDone := Option.none })
  | Option.none =>
  match ns.managerChanged with
  | some p => some (.managerChanged p, { ns with managerChanged := Option.none })
  | Option.none =>
  match ns.denial with
  | some n => some (.denial n, { ns with denial := Option.none })
  | Option.none => Option.none

/-- The port's outbound capacity in use: messages and reservations together (R120, R132). -/
def Outbound.sum (o : Outbound) : Nat := o.queue.length + o.reservations

/-- One move of R138: the first pending notice joins the tail of the queue while the sum is below 8. -/
def Outbound.moveOne (o : Outbound) : Outbound :=
  if o.sum < Config.outboundCapacity then
    match o.notices.takeFirst with
    | some (n, rest) => { o with queue := o.queue ++ [.notice n], notices := rest }
    | Option.none => o
  else o

/-- The moves of R138: each pending kind in turn, until the sum reaches 8 or the set is empty. There are five
kinds, so five moves are enough. -/
def Outbound.moveNotices (o : Outbound) : Outbound := Outbound.moveOne^[5] o

/-- A response joins the queue and takes the place of its reservation (R132). -/
def Outbound.respond (o : Outbound) (m : Message) : Outbound :=
  { o with queue := o.queue ++ [m], reservations := o.reservations - 1 }

/-- A reservation is taken at acceptance (R122). -/
def Outbound.reserve (o : Outbound) : Outbound := { o with reservations := o.reservations + 1 }

/-- The head message is removed at the end of a frame that carried it whole (R130, R152). -/
def Outbound.removeHead (o : Outbound) : Outbound := { o with queue := o.queue.tail }

/-- A notice is raised on the port (R136). -/
def Outbound.raise (o : Outbound) (n : Notice) : Outbound := { o with notices := o.notices.raise n }

/-- The attention line: asserted while the queue holds a message and the part state is OPERATING (R140). -/
def Outbound.driveAttention (o : Outbound) (part : PartState) : Outbound :=
  { o with attention := !o.queue.isEmpty && part == .operating }

end Sys2Proof.Machine
end

