-- ==== Sys2Proof/Machine/Operands.lean ====
section
/-! DEFINITION. What crosses a link, byte by byte: code values, the check, records, messages, request frames
(12), and how a record's bytes become a window entry or a profile entry (R21, R33, R192). -/

namespace Sys2Proof.Machine

/-! ## Byte order: most significant byte first (00 section 5) -/

/-- The two bytes of a 16-bit field, most significant first. -/
def bytesOfHalf (h : Half) : List Byte := [h.extractLsb' 8 8, h.extractLsb' 0 8]

/-- The four bytes of a 32-bit field, most significant first. -/
def bytesOfWord (w : Word) : List Byte :=
  [w.extractLsb' 24 8, w.extractLsb' 16 8, w.extractLsb' 8 8, w.extractLsb' 0 8]

/-- The 16-bit field at an offset of a byte list. -/
def halfAt (bs : List Byte) (i : Nat) : Half := bs.getD i 0 ++ bs.getD (i + 1) 0

/-- The 32-bit field at an offset of a byte list. -/
def wordAt (bs : List Byte) (i : Nat) : Word :=
  bs.getD i 0 ++ bs.getD (i + 1) 0 ++ bs.getD (i + 2) 0 ++ bs.getD (i + 3) 0

/-- A physical address in n bytes, most significant first (R41). -/
def addressBytes : Nat → Nat → List Byte
  | 0, _ => []
  | n + 1, a => BitVec.ofNat 8 (a / 2 ^ (8 * n)) :: addressBytes n a

/-! ## The check (R146, 12 section 12.6) -/

/-- One shift of the check register: after a shift in which a 1 left the top it is combined with 1021h. -/
def crcShift (r : Half) : Half := if r.msb then (r <<< 1) ^^^ 0x1021#16 else r <<< 1

/-- The check register after one byte, taken most significant bit first. -/
def crcByte (r : Half) (b : Byte) : Half := crcShift^[8] (r ^^^ (b ++ 0#8))

/-- The check over a list of bytes: register preset to FFFFh, not inverted. -/
def crc (bs : List Byte) : Half := bs.foldl crcByte 0xFFFF#16

/-- Bytes closed by their check, the more significant byte first. -/
def withCheck (bs : List Byte) : List Byte := bs ++ bytesOfHalf (crc bs)

/-! ## Code values (12 section 12.5) -/

/-- Request kind codes. -/
def RequestKind.code : RequestKind → Byte
  | .null => 0x00
  | .read => 0x01
  | .program => 0x02
  | .erase => 0x03
  | .windowWrite => 0x10
  | .windowRead => 0x11
  | .profileWrite => 0x12
  | .profileRead => 0x13
  | .swap => 0x14
  | .freeze => 0x15
  | .handover => 0x16
  | .abort => 0x17
  | .statusRead => 0x18
  | .warmReset => 0x19

/-- The kind a code names; every other kind byte is an unknown kind. -/
def requestKindOf (b : Byte) : Option RequestKind :=
  [RequestKind.null, .read, .program, .erase, .windowWrite, .windowRead, .profileWrite, .profileRead, .swap,
    .freeze, .handover, .abort, .statusRead, .warmReset].find? fun k => k.code == b

/-- Receipt codes. -/
def ReceiptCode.code : ReceiptCode → Byte
  | .none => 0x00
  | .accepted => 0x01
  | .idleFrame => 0x02
  | .badFrame => 0x03
  | .unknownKind => 0x04
  | .tagBusy => 0x05
  | .queueFull => 0x06
  | .noSlot => 0x07
  | .resetting => 0x08

/-- Status codes. -/
def Status.code : Status → Byte
  | .done => 0x00
  | .pending => 0x01
  | .denied => 0x02
  | .noWindow => 0x03
  | .boundary => 0x04
  | .swapPending => 0x05
  | .noDevice => 0x06
  | .deviceFault => 0x07
  | .outOfDevice => 0x08
  | .pageCross => 0x09
  | .misaligned => 0x0A
  | .badLength => 0x0B
  | .deviceError => 0x0C
  | .timeout => 0x0D
  | .aborted => 0x0E
  | .lost => 0x0F
  | .notManager => 0x10
  | .frozen => 0x11
  | .inUse => 0x12
  | .deviceBusy => 0x13
  | .overlap => 0x14
  | .badArgument => 0x15
  | .notFound => 0x16
  | .staleEpoch => 0x17

/-- Tracker state codes (12 section 12.3). -/
def TrackerState.code : TrackerState → Byte
  | .offline => 0x00
  | .idle => 0x01
  | .running => 0x02
  | .suspending => 0x03
  | .suspended => 0x04
  | .recovering => 0x05
  | .faulted => 0x06

/-- Port codes of the status record and of MANAGER_CHANGED: 00h A, 01h B. -/
def portCode : Port → Byte
  | .A => 0x00
  | .B => 0x01

/-- Notice kind codes. -/
def Notice.code : Notice → Byte
  | .resetDone _ => 0x01
  | .deviceFault _ => 0x02
  | .swapDone _ => 0x03
  | .managerChanged _ => 0x04
  | .denial _ => 0x05

/-- The two-byte accumulator of a notice (R191). -/
def Notice.accumulator : Notice → Half
  | .resetDone e => e
  | .deviceFault m => m
  | .swapDone m => m
  | .managerChanged p => 0#8 ++ portCode p
  | .denial n => BitVec.ofNat 16 n

/-- A flag as a byte: 00h no, 01h yes. -/
def flagByte (b : Bool) : Byte := if b then 0x01 else 0x00

/-! ## Records as bytes (12 section 12.3) -/

/-- The 24 bytes of a window record. -/
def WindowRecord.bytes (r : WindowRecord) : List Byte :=
  [r.state, r.owners, r.device, r.flags, r.rightsA, r.rightsB] ++ bytesOfHalf r.useCount
    ++ bytesOfWord r.logicalBase ++ bytesOfWord r.size ++ bytesOfWord r.bank0 ++ bytesOfWord r.bank1

/-- The window record that 24 bytes code. -/
def windowRecordOf (bs : List Byte) : WindowRecord where
  state := bs.getD 0 0
  owners := bs.getD 1 0
  device := bs.getD 2 0
  flags := bs.getD 3 0
  rightsA := bs.getD 4 0
  rightsB := bs.getD 5 0
  useCount := halfAt bs 6
  logicalBase := wordAt bs 8
  size := wordAt bs 12
  bank0 := wordAt bs 16
  bank1 := wordAt bs 20

/-- The 4 bytes of an erase unit. -/
def UnitRecord.bytes (u : UnitRecord) : List Byte := [u.size, u.command] ++ bytesOfHalf u.limit

/-- The erase unit at an offset of a profile record. -/
def unitRecordAt (bs : List Byte) (i : Nat) : UnitRecord where
  size := bs.getD i 0
  command := bs.getD (i + 1) 0
  limit := halfAt bs (i + 2)

/-- The 40 bytes of a profile record. -/
def ProfileRecord.bytes (r : ProfileRecord) : List Byte :=
  [r.present, r.capacity, r.addressBytes, r.pageSize, r.readCommand, r.readDummy, r.writeEnable,
    r.programCommand] ++ bytesOfHalf r.programLimit
    ++ [r.statusCommand, r.busyBit, r.errorBit, r.suspendedBit, r.suspendFlags, r.suspendCommand,
      r.resumeCommand, r.suspendLimit]
    ++ bytesOfHalf r.settleLimit ++ bytesOfHalf r.pollInterval ++ [r.unitCount]
    ++ r.unit1.bytes ++ r.unit2.bytes ++ r.unit3.bytes
    ++ [r.resetCount, r.resetCode1, r.resetCode2] ++ bytesOfHalf r.resetSettle

/-- The profile record that 40 bytes code. -/
def profileRecordOf (bs : List Byte) : ProfileRecord where
  present := bs.getD 0 0
  capacity := bs.getD 1 0
  addressBytes := bs.getD 2 0
  pageSize := bs.getD 3 0
  readCommand := bs.getD 4 0
  readDummy := bs.getD 5 0
  writeEnable := bs.getD 6 0
  programCommand := bs.getD 7 0
  programLimit := halfAt bs 8
  statusCommand := bs.getD 10 0
  busyBit := bs.getD 11 0
  errorBit := bs.getD 12 0
  suspendedBit := bs.getD 13 0
  suspendFlags := bs.getD 14 0
  suspendCommand := bs.getD 15 0
  resumeCommand := bs.getD 16 0
  suspendLimit := bs.getD 17 0
  settleLimit := halfAt bs 18
  pollInterval := halfAt bs 20
  unitCount := bs.getD 22 0
  unit1 := unitRecordAt bs 23
  unit2 := unitRecordAt bs 27
  unit3 := unitRecordAt bs 31
  resetCount := bs.getD 35 0
  resetCode1 := bs.getD 36 0
  resetCode2 := bs.getD 37 0
  resetSettle := halfAt bs 38

/-- The five bytes of one device in a status record. -/
def DeviceStatus.bytes (d : DeviceStatus) : List Byte :=
  [d.state.code, BitVec.ofNat 8 d.depth,
    match d.top with
    | Option.none => 0x00
    | some .program => RequestKind.program.code
    | some .erase => RequestKind.erase.code,
    BitVec.ofNat 8 d.timeouts, BitVec.ofNat 8 d.refCount]

/-- The seven bytes of one port in a status record. -/
def PortStatus.bytes (p : PortStatus) : List Byte :=
  [BitVec.ofNat 8 p.occupancy, BitVec.ofNat 8 p.reservations, BitVec.ofNat 8 p.outbound]
    ++ bytesOfHalf p.badFrames ++ bytesOfHalf p.denials

/-- The 39 bytes of a status record. -/
def StatusRecord.bytes (r : StatusRecord) : List Byte :=
  bytesOfHalf r.epoch
    ++ [portCode r.manager, flagByte r.frozen,
      match r.part with
      | .operating => 0x00
      | .resetting => 0x01]
    ++ r.devices.toList.flatMap DeviceStatus.bytes ++ r.ports.a.bytes ++ r.ports.b.bytes

/-! ## Messages as bytes (R151, R191) -/

/-- The data bytes of a response. -/
def ResponseData.toBytes : ResponseData → List Byte
  | .absent => []
  | .bytes l => l
  | .window r => r.bytes
  | .profile r => r.bytes
  | .status r => r.bytes

/-- The code of a NOTICE message (12 section 12.2). -/
def noticeCode : Byte := 0x80

/-- A message before its check: kind, tag, status or notice kind, data length, data. -/
def Message.body : Message → List Byte
  | .response k t st d =>
    [k.code, t, st.code] ++ bytesOfHalf (BitVec.ofNat 16 d.toBytes.length) ++ d.toBytes
  | .notice n => [noticeCode, 0x00, n.code] ++ bytesOfHalf 2 ++ bytesOfHalf n.accumulator

/-- The bytes of a message. -/
def Message.bytes (m : Message) : List Byte := withCheck m.body

/-- The size of a message: 7 plus its data length (R151). -/
def Message.size : Message → Nat
  | .response _ _ _ d => 7 + d.toBytes.length
  | .notice _ => 9

/-! ## Request frames (R143 to R146, 12 sections 12.1 and 12.4) -/

/-- The request of a valid frame, its arguments decoded by R192. -/
inductive FrameRequest where
  | null
  | unknown
  | read (address : Word) (length : Half)
  | program (address : Word) (data : List Byte)
  | erase (address : Word) (sizeKiB : Half)
  | windowWrite (number : Word) (record : WindowRecord)
  | windowRead (number : Word)
  | profileWrite (number : Word) (record : ProfileRecord)
  | profileRead (number : Word)
  | swap (number : Word)
  | freeze
  | handover
  | statusRead (clear : Bool)
  | abort (target : Port) (targetTag : Byte)
  | warmReset (epoch : Half)
  deriving DecidableEq, Repr

/-- The payload size that a frame's kind byte and length field imply; none where any size will do (R145). -/
def impliedPayload (kind : Byte) (length : Half) : Option Nat :=
  match requestKindOf kind with
  | Option.none => Option.none
  | some .null => Option.none
  | some .program => some length.toNat
  | some .windowWrite => some 24
  | some .profileWrite => some 40
  | some .statusRead => some 1
  | some .read => some 0
  | some .erase => some 0
  | some .windowRead => some 0
  | some .profileRead => some 0
  | some .swap => some 0
  | some .freeze => some 0
  | some .handover => some 0
  | some .abort => some 0
  | some .warmReset => some 0

/-- Conditions 2 to 4 of R144 on the whole bytes of a frame: 10 to 266 bytes, the size its kind implies, and a
check that agrees. -/
def frameBytesValid (bs : List Byte) : Bool :=
  Config.minFrameBytes ≤ bs.length && bs.length ≤ Config.heldBytes
    && (match impliedPayload (bs.getD 0 0) (halfAt bs 6) with
      | Option.none => true
      | some n => bs.length == Config.minFrameBytes + n)
    && halfAt bs (bs.length - 2) == crc (bs.take (bs.length - 2))

/-- A frame is valid at its end (R144): no partial byte, and its bytes are valid. A frame of more bytes than
the link holds is invalid by its count. -/
def Frame.valid (f : Frame) (count : Nat) (extraClocks : Fin 8) : Bool :=
  extraClocks == 0 && count ≤ Config.heldBytes && frameBytesValid f.held

/-- The tag of a frame's receipt: its second byte, or 00h where it holds fewer than two (R147). -/
def frameTag (bs : List Byte) : Byte := bs.getD 1 0

/-- The payload of a frame: what lies between the length field and the check. -/
def framePayload (bs : List Byte) : List Byte := (bs.drop 8).take (bs.length - Config.minFrameBytes)

/-- The target port of an ABORT: 00h names A, any other value B (12 section 12.4). -/
def targetPort (b : Byte) : Port := if b = 0 then .A else .B

/-- The request of a valid frame (12 sections 12.1, 12.4 and 12.5). -/
def frameRequest (bs : List Byte) : FrameRequest :=
  match requestKindOf (bs.getD 0 0) with
  | Option.none => .unknown
  | some .null => .null
  | some .read => .read (wordAt bs 2) (halfAt bs 6)
  | some .program => .program (wordAt bs 2) (framePayload bs)
  | some .erase => .erase (wordAt bs 2) (halfAt bs 6)
  | some .windowWrite => .windowWrite (wordAt bs 2) (windowRecordOf (framePayload bs))
  | some .windowRead => .windowRead (wordAt bs 2)
  | some .profileWrite => .profileWrite (wordAt bs 2) (profileRecordOf (framePayload bs))
  | some .profileRead => .profileRead (wordAt bs 2)
  | some .swap => .swap (wordAt bs 2)
  | some .freeze => .freeze
  | some .handover => .handover
  | some .statusRead => .statusRead (bs.getD 8 0 != 0)
  | some .abort => .abort (targetPort (bs.getD 4 0)) (bs.getD 5 0)
  | some .warmReset => .warmReset (halfAt bs 4)

/-- The frame a host sends for a request row, its ignored fields zero: kind, tag, address, length, payload,
check. None for a command that is no request. -/
def requestFrame : Instr → Option (List Byte)
  | .null _ t => some (withCheck ([RequestKind.null.code, t] ++ bytesOfWord 0 ++ bytesOfHalf 0))
  | .read _ t a n => some (withCheck ([RequestKind.read.code, t] ++ bytesOfWord a ++ bytesOfHalf n))
  | .program _ t a d => some (withCheck
      ([RequestKind.program.code, t] ++ bytesOfWord a ++ bytesOfHalf (BitVec.ofNat 16 d.length) ++ d))
  | .erase _ t a n => some (withCheck ([RequestKind.erase.code, t] ++ bytesOfWord a ++ bytesOfHalf n))
  | .windowWrite _ t w r => some (withCheck
      ([RequestKind.windowWrite.code, t] ++ bytesOfWord w ++ bytesOfHalf 0 ++ r.bytes))
  | .windowRead _ t w => some (withCheck ([RequestKind.windowRead.code, t] ++ bytesOfWord w ++ bytesOfHalf 0))
  | .profileWrite _ t w r => some (withCheck
      ([RequestKind.profileWrite.code, t] ++ bytesOfWord w ++ bytesOfHalf 0 ++ r.bytes))
  | .profileRead _ t w =>
    some (withCheck ([RequestKind.profileRead.code, t] ++ bytesOfWord w ++ bytesOfHalf 0))
  | .swap _ t w => some (withCheck ([RequestKind.swap.code, t] ++ bytesOfWord w ++ bytesOfHalf 0))
  | .freeze _ t => some (withCheck ([RequestKind.freeze.code, t] ++ bytesOfWord 0 ++ bytesOfHalf 0))
  | .handover _ t => some (withCheck ([RequestKind.handover.code, t] ++ bytesOfWord 0 ++ bytesOfHalf 0))
  | .statusRead _ t c => some (withCheck
      ([RequestKind.statusRead.code, t] ++ bytesOfWord 0 ++ bytesOfHalf 0 ++ [flagByte c]))
  | .abort _ t p u => some (withCheck
      ([RequestKind.abort.code, t] ++ [0, 0, portCode p, u] ++ bytesOfHalf 0))
  | .warmReset _ t e => some (withCheck
      ([RequestKind.warmReset.code, t] ++ [0, 0] ++ bytesOfHalf e ++ bytesOfHalf 0))
  | .coldStart .. | .coldStartEnd | .powerOff | .timeBaseTick | .frameBegin _ | .frameEnd .. | .clearStep
  | .resetSequenceEnd | .resetPinAssert | .resetPinRelease | .busGrant | .readJobComplete _
  | .startJobComplete | .pollComplete _ | .suspendComplete | .resumeComplete | .resetJobComplete
  | .pollTimerExpiry _ | .deadlineExpiry _ | .suspendSettleExpiry _ | .resetSettleExpiry _
  | .inboundByte .. | .clkPeriod => Option.none

/-- The port, tag and request of a request row: what a valid frame that carries it hands to intake (R113). None
for a command that is no request. -/
def handed : Instr → Option (Port × Byte × FrameRequest)
  | .null p t => some (p, t, .null)
  | .read p t a n => some (p, t, .read a n)
  | .program p t a d => some (p, t, .program a d)
  | .erase p t a n => some (p, t, .erase a n)
  | .windowWrite p t w r => some (p, t, .windowWrite w r)
  | .windowRead p t w => some (p, t, .windowRead w)
  | .profileWrite p t w r => some (p, t, .profileWrite w r)
  | .profileRead p t w => some (p, t, .profileRead w)
  | .swap p t w => some (p, t, .swap w)
  | .freeze p t => some (p, t, .freeze)
  | .handover p t => some (p, t, .handover)
  | .statusRead p t c => some (p, t, .statusRead c)
  | .abort p t q u => some (p, t, .abort q u)
  | .warmReset p t e => some (p, t, .warmReset e)
  | .coldStart .. | .coldStartEnd | .powerOff | .timeBaseTick | .frameBegin _ | .frameEnd .. | .clearStep
  | .resetSequenceEnd | .resetPinAssert | .resetPinRelease | .busGrant | .readJobComplete _
  | .startJobComplete | .pollComplete _ | .suspendComplete | .resumeComplete | .resetJobComplete
  | .pollTimerExpiry _ | .deadlineExpiry _ | .suspendSettleExpiry _ | .resetSettleExpiry _
  | .inboundByte .. | .clkPeriod => Option.none

/-! ## Window entries and their records (R21, R192) -/

/-- A rights set from its byte: bit 0 READ, bit 1 PROGRAM, bit 2 ERASE; bits 3 to 7 ignored. -/
def rightsOf (b : Byte) : Rights where
  read := b.getLsbD 0
  program := b.getLsbD 1
  erase := b.getLsbD 2

/-- A byte from its bits, bit 0 first. -/
def byteOfBits (bits : List Bool) : Byte :=
  BitVec.ofNat 8 (bits.foldr (fun b n => (if b then 1 else 0) + 2 * n) 0)

/-- The byte of a rights set. -/
def Rights.byte (r : Rights) : Byte := byteOfBits [r.read, r.program, r.erase]

/-- The owners that an owners byte names: 01h {A}, 02h {B}, 03h {A, B}. -/
def ownersOf (b : Byte) : PerPort Bool := { a := b.getLsbD 0, b := b.getLsbD 1 }

/-- The size in bytes that a window record gives, its size field being in units of 4 KiB. -/
def WindowRecord.sizeBytes (r : WindowRecord) : Nat := Config.windowUnit * r.size.toNat

/-- Flag bit 0: bank 1 present. -/
def WindowRecord.hasBank1 (r : WindowRecord) : Bool := r.flags.getLsbD 0

/-- A base is a multiple of 4 KiB: none of its low 12 bits is set. -/
def aligned4K (w : Word) : Bool := w.toNat % Config.windowUnit == 0

/-- Base + size does not pass the top of the 32-bit space. -/
def fits (base : Word) (size : Nat) : Bool := base.toNat + size ≤ Config.addressSpace

/-- A window record is valid (R21 as R192 codes it): EMPTY with any other content, or ACTIVE with content
that meets every condition. -/
def WindowRecord.valid (r : WindowRecord) : Bool :=
  r.state == 0x00 ||
  (r.state == 0x01
    && (r.owners == 0x01 || r.owners == 0x02 || r.owners == 0x03)
    && r.device.toNat ≤ 3
    && aligned4K r.logicalBase && aligned4K r.bank0 && (!r.hasBank1 || aligned4K r.bank1)
    && r.size != 0
    && fits r.logicalBase r.sizeBytes && fits r.bank0 r.sizeBytes && (!r.hasBank1 || fits r.bank1 r.sizeBytes)
    && (!r.flags.getLsbD 1 || r.hasBank1)
    && (r.owners.getLsbD 0 || rightsOf r.rightsA == .empty)
    && (r.owners.getLsbD 1 || rightsOf r.rightsB == .empty))

/-- The entry that a valid window record writes; use count and swap pending are not stored (R21, R22). -/
def WindowRecord.toWindow (r : WindowRecord) : Window :=
  if r.state == 0x01 then
    { active := true
      owners := ownersOf r.owners
      logicalBase := r.logicalBase
      size := r.sizeBytes
      device := Fin.ofNat 4 r.device.toNat
      bank0 := r.bank0
      bank1 := if r.hasBank1 then some r.bank1 else Option.none
      activeBank := if r.flags.getLsbD 1 then .bank1 else .bank0
      rights := { a := rightsOf r.rightsA, b := rightsOf r.rightsB }
      swapOpen := r.flags.getLsbD 2
      report := r.flags.getLsbD 3
      useCount := 0
      swapPending := false }
  else Window.empty

/-- The record that WINDOW_READ returns for an entry; unused bits read as 0 (R192). -/
def Window.toRecord (w : Window) : WindowRecord where
  state := flagByte w.active
  owners := byteOfBits [w.owners.a, w.owners.b]
  device := BitVec.ofNat 8 w.device.val
  flags := byteOfBits [w.bank1.isSome, w.activeBank == .bank1, w.swapOpen, w.report, w.swapPending]
  rightsA := w.rights.a.byte
  rightsB := w.rights.b.byte
  useCount := BitVec.ofNat 16 w.useCount
  logicalBase := w.logicalBase
  size := BitVec.ofNat 32 (w.size / Config.windowUnit)
  bank0 := w.bank0
  bank1 := w.bank1.getD 0

/-- The window that a 32-bit window number names; none above 15, whatever its upper bytes hold (R192). -/
def windowNumber (w : Word) : Option WindowNo :=
  if h : w.toNat < 16 then some ⟨w.toNat, h⟩ else Option.none

/-- The device that a 32-bit device number names; none above 3 (R192). -/
def deviceNumber (w : Word) : Option Device :=
  if h : w.toNat < 4 then some ⟨w.toNat, h⟩ else Option.none

/-! ## Profile entries and their records (R33, R192) -/

/-- The units that a profile record gives, those beyond its count ignored. -/
def ProfileRecord.units (r : ProfileRecord) : List UnitRecord :=
  [r.unit1, r.unit2, r.unit3].take r.unitCount.toNat

/-- A bit position, or absent as FFh. -/
def bitPosition (b : Byte) : Option Nat := if b = 0xFF then Option.none else some b.toNat

/-- A position byte is 0 to 7, or FFh. -/
def positionValid (b : Byte) : Bool := b.toNat ≤ 7 || b == 0xFF

/-- A number lies in a range, both ends included. -/
def within (lo n hi : Nat) : Bool := lo ≤ n && n ≤ hi

/-- One erase unit is valid for a device of the given capacity. -/
def UnitRecord.valid (u : UnitRecord) (capacity : Nat) : Bool :=
  within 12 u.size.toNat 18 && u.size.toNat ≤ capacity && within 1 u.limit.toNat 65535

/-- Flag bit 0 of the suspension flags: suspend and resume commands present. -/
def ProfileRecord.hasSuspend (r : ProfileRecord) : Bool := r.suspendFlags.getLsbD 0

/-- A profile record is valid (R33 as R192 codes it). -/
def ProfileRecord.valid (r : ProfileRecord) : Bool :=
  r.present == 0x00 ||
  (r.present == 0x01
    && within 16 r.capacity.toNat 32
    && within 3 r.addressBytes.toNat 4
    && (r.capacity.toNat ≤ 24 || r.addressBytes.toNat == 4)
    && within 4 r.pageSize.toNat 8
    && r.readDummy.toNat ≤ 4
    && within 1 r.unitCount.toNat 3
    && r.units.all (fun u => u.valid r.capacity.toNat)
    && decide (r.units.map UnitRecord.size).Nodup
    && within 100 r.programLimit.toNat 65535
    && r.busyBit.toNat ≤ 7 && positionValid r.errorBit && positionValid r.suspendedBit
    && decide ((some r.busyBit.toNat :: [bitPosition r.errorBit, bitPosition r.suspendedBit]).reduceOption).Nodup
    && r.suspendFlags.extractLsb' 4 4 == 0
    && (!(r.suspendFlags.getLsbD 1 || r.suspendFlags.getLsbD 2)
      || (r.hasSuspend && (bitPosition r.suspendedBit).isSome))
    && (!r.suspendFlags.getLsbD 3 || r.suspendFlags.getLsbD 2)
    && within 1 r.suspendLimit.toNat 15
    && within 1 r.settleLimit.toNat 4095
    && within 8 r.pollInterval.toNat 4095
    && within 1 r.resetCount.toNat 2
    && within 1 r.resetSettle.toNat 4095)

/-- An erase unit of an entry: its limit is written in ms and held in µs (R29). -/
def UnitRecord.toUnit (u : UnitRecord) : EraseUnit where
  sizeLog := u.size.toNat
  command := u.command
  limit := 1000 * u.limit.toNat

/-- The entry that a valid profile record writes (R36). -/
def ProfileRecord.toProfile (r : ProfileRecord) : Profile :=
  if r.present == 0x01 then
    { present := true
      capacityLog := r.capacity.toNat
      addressBytes := r.addressBytes.toNat
      pageLog := r.pageSize.toNat
      readCommand := r.readCommand
      readDummy := r.readDummy.toNat
      writeEnable := r.writeEnable
      programCommand := r.programCommand
      eraseUnits := r.units.map UnitRecord.toUnit
      programLimit := r.programLimit.toNat
      statusCommand := r.statusCommand
      busyBit := r.busyBit.toNat
      errorBit := bitPosition r.errorBit
      suspendedBit := bitPosition r.suspendedBit
      suspendResume := if r.hasSuspend then some (r.suspendCommand, r.resumeCommand) else Option.none
      suspendProgramAllowed := r.suspendFlags.getLsbD 1
      suspendEraseAllowed := r.suspendFlags.getLsbD 2
      programInEraseSuspend := r.suspendFlags.getLsbD 3
      suspendLimit := r.suspendLimit.toNat
      settleLimit := r.settleLimit.toNat
      pollInterval := r.pollInterval.toNat
      resetSequence := [r.resetCode1, r.resetCode2].take r.resetCount.toNat
      resetSettle := r.resetSettle.toNat }
  else Profile.absent

/-- The erase unit of a record, zero where the entry has none. -/
def unitRecordOf : Option EraseUnit → UnitRecord
  | some u => { size := BitVec.ofNat 8 u.sizeLog, command := u.command, limit := BitVec.ofNat 16 (u.limit / 1000) }
  | Option.none => { size := 0, command := 0, limit := 0 }

/-- A bit position as its byte, FFh for absent. -/
def positionByte : Option Nat → Byte
  | some n => BitVec.ofNat 8 n
  | Option.none => 0xFF

/-- The record that PROFILE_READ returns for an entry (R37, R192). -/
def Profile.toRecord (p : Profile) : ProfileRecord where
  present := flagByte p.present
  capacity := BitVec.ofNat 8 p.capacityLog
  addressBytes := BitVec.ofNat 8 p.addressBytes
  pageSize := BitVec.ofNat 8 p.pageLog
  readCommand := p.readCommand
  readDummy := BitVec.ofNat 8 p.readDummy
  writeEnable := p.writeEnable
  programCommand := p.programCommand
  programLimit := BitVec.ofNat 16 p.programLimit
  statusCommand := p.statusCommand
  busyBit := BitVec.ofNat 8 p.busyBit
  errorBit := positionByte p.errorBit
  suspendedBit := positionByte p.suspendedBit
  suspendFlags := byteOfBits
    [p.suspendResume.isSome, p.suspendProgramAllowed, p.suspendEraseAllowed, p.programInEraseSuspend]
  suspendCommand := (p.suspendResume.map Prod.fst).getD 0
  resumeCommand := (p.suspendResume.map Prod.snd).getD 0
  suspendLimit := BitVec.ofNat 8 p.suspendLimit
  settleLimit := BitVec.ofNat 16 p.settleLimit
  pollInterval := BitVec.ofNat 16 p.pollInterval
  unitCount := BitVec.ofNat 8 p.eraseUnits.length
  unit1 := unitRecordOf p.eraseUnits[0]?
  unit2 := unitRecordOf p.eraseUnits[1]?
  unit3 := unitRecordOf p.eraseUnits[2]?
  resetCount := BitVec.ofNat 8 p.resetSequence.length
  resetCode1 := p.resetSequence.getD 0 0
  resetCode2 := p.resetSequence.getD 1 0
  resetSettle := BitVec.ofNat 16 p.resetSettle

/-! ## Sizes and units of a profile -/

/-- Capacity in bytes (R28). -/
def Profile.capacity (p : Profile) : Nat := 2 ^ p.capacityLog

/-- Page size in bytes (R28). -/
def Profile.pageSize (p : Profile) : Nat := 2 ^ p.pageLog

/-- The size of an erase unit in bytes (R29). -/
def EraseUnit.size (u : EraseUnit) : Nat := 2 ^ u.sizeLog

/-- The erase unit of a number 1 to 3 (R29). -/
def Profile.unit? (p : Profile) (n : Nat) : Option EraseUnit := if n = 0 then Option.none else p.eraseUnits[n - 1]?

end Sys2Proof.Machine
end

