-- ==== Sys2Proof/Machine/Ops.lean ====
section
/-! DEFINITION. The operations every meaning is built from: access to the blocks of the state, responses and
notices, use counts and swaps, ranges, eligibility, the trackers' wants, entering recovery, and the close of
an event. -/

namespace Sys2Proof.Machine

/-! ## Access -/

namespace State

/-- The window entry of a number. -/
def window (s : State) (w : WindowNo) : Window := s.windows[w]

/-- The state with one window entry replaced. -/
def setWindow (s : State) (w : WindowNo) (v : Window) : State := { s with windows := s.windows.set w v }

/-- The profile entry of a device. -/
def profile (s : State) (d : Device) : Profile := s.profiles[d]

/-- The state with one profile entry replaced. -/
def setProfile (s : State) (d : Device) (v : Profile) : State := { s with profiles := s.profiles.set d v }

/-- The tracker of a device. -/
def tracker (s : State) (d : Device) : Tracker := s.trackers[d]

/-- The state with one tracker replaced. -/
def setTracker (s : State) (d : Device) (v : Tracker) : State := { s with trackers := s.trackers.set d v }

/-- The outbound unit of a port. -/
def out (s : State) (p : Port) : Outbound := s.outbound.get p

/-- The state with one outbound unit replaced. -/
def setOut (s : State) (p : Port) (v : Outbound) : State := { s with outbound := s.outbound.set p v }

/-- The link unit of a port. -/
def link (s : State) (p : Port) : Link := s.links.get p

/-- The state with one link unit replaced. -/
def setLink (s : State) (p : Port) (v : Link) : State := { s with links := s.links.set p v }

/-- The port queue of a port. -/
def queue (s : State) (p : Port) : List Request := s.queues.get p

/-- The state with one port queue replaced. -/
def setQueue (s : State) (p : Port) (v : List Request) : State := { s with queues := s.queues.set p v }

/-- The state with the job in progress replaced. -/
def setJob (s : State) (j : Option Job) : State := { s with job := j }

end State

/-! ## Responses and notices -/

/-- A response is queued on a port (R132). -/
def State.respond (s : State) (p : Port) (m : Message) : State := s.setOut p ((s.out p).respond m)

/-- A response without data. -/
def plainResponse (k : RequestKind) (tag : Byte) (st : Status) : Message := .response k tag st .absent

/-- A notice is raised on a port (R135, R136). -/
def State.raise (s : State) (p : Port) (n : Notice) : State := s.setOut p ((s.out p).raise n)

/-- The outbound unit of a port moves its pending notices (R138). -/
def State.moveNotices (s : State) (p : Port) : State := s.setOut p (s.out p).moveNotices

/-- Both attention lines follow their queues and the part state (R140). -/
def State.driveAttention (s : State) : State :=
  { s with outbound :=
      { a := s.outbound.a.driveAttention s.part, b := s.outbound.b.driveAttention s.part } }

/-! ## Use counts, reference counts, swaps -/

/-- The other bank. -/
def Bank.flip : Bank → Bank
  | .bank0 => .bank1
  | .bank1 => .bank0

/-- The physical base of a window's active bank (R3). -/
def Window.activeBase (w : Window) : Nat :=
  match w.activeBank with
  | .bank0 => w.bank0.toNat
  | .bank1 => (w.bank1.getD 0).toNat

/-- A response for a request translated through the window has been queued: the use count falls by 1, and a
pending swap takes effect when it reaches 0, with SWAP_DONE raised on the manager (R4, R26). -/
def State.lowerUse (s : State) (w : WindowNo) : State :=
  let v := s.window w
  if v.useCount = 1 ∧ v.swapPending then
    (s.setWindow w { v with useCount := 0, activeBank := v.activeBank.flip, swapPending := false }).raise
      s.manager (.swapDone (windowBit w))
  else s.setWindow w { v with useCount := v.useCount - 1 }

/-- A response for a request translated to the device has been queued: the reference count falls (R52). -/
def State.lowerRef (s : State) (d : Device) : State :=
  s.setTracker d { s.tracker d with refCount := (s.tracker d).refCount - 1 }

/-- The answer to a translated request: its response is queued, then its counts fall (R4, R26, R52). -/
def State.answer (s : State) (p : Port) (m : Message) (w : WindowNo) (d : Device) : State :=
  ((s.respond p m).lowerRef d).lowerUse w

/-! ## Kinds and ranges -/

/-- The request kind of a translated request. -/
def Work.kind : Work → RequestKind
  | .read => .read
  | .program _ => .program
  | .erase _ => .erase

/-- The request kind of an op record. -/
def OpKind.kind : OpKind → RequestKind
  | .program => .program
  | .erase => .erase

/-- The status of a record's response (R70). -/
def EndStatus.status : EndStatus → Status
  | .done => .done
  | .deviceError => .deviceError
  | .timeout => .timeout
  | .aborted => .aborted
  | .lost => .lost

/-- Two ranges of bytes, each a start and a length, overlap. -/
def overlaps (start₁ length₁ start₂ length₂ : Nat) : Bool :=
  start₁ < start₂ + length₂ && start₂ < start₁ + length₁

/-- A request's physical range overlaps a record's, which for an ERASE is the whole unit (R50, R100). -/
def OpRecord.overlapsRequest (rec : OpRecord) (r : Request) : Bool :=
  overlaps rec.start rec.length r.start r.count

/-- The record is ending: its end status is set and its response not yet queued (R51). -/
def OpRecord.ending (rec : OpRecord) : Bool := rec.endStatus.isSome

/-- The record's busy time counts, and its deadline exists (R55). -/
def OpRecord.counting (rec : OpRecord) : Bool := !rec.ending && rec.state != .suspended

/-! ## Which waiting requests may go to the bus (R97 to R99), and for whom a device is suspended (R73) -/

/-- The requests of a queue that no older request of it for the same device stands before, oldest first (R97);
the devices already met are carried along. -/
def leadersFrom : List Device → List Request → List Request
  | _, [] => []
  | seen, r :: q => if r.device ∈ seen then leadersFrom seen q else r :: leadersFrom (r.device :: seen) q

/-- The requests of a queue that pass the per-port start order (R97). -/
def leaders (q : List Request) : List Request := leadersFrom [] q

/-- The tracker wants any job (R49). -/
def Tracker.wantsAny (t : Tracker) : Bool := t.wantPoll || t.wantSuspend || t.wantResume || t.wantReset

/-- A request may run beside one suspended record (R81, R83, R98): a READ outside its range; a PROGRAM outside
the unit of an ERASE, where the profile has program in erase suspend. -/
def runsBeside (prof : Profile) (rec : OpRecord) (r : Request) : Bool :=
  match r.work, rec.kind with
  | .read, _ => !rec.overlapsRequest r
  | .program _, .erase => prof.programInEraseSuspend && !rec.overlapsRequest r
  | .program _, .program => false
  | .erase _, _ => false

/-- The tracker's state and stack allow the request (the table of R98). -/
def Tracker.admits (prof : Profile) (t : Tracker) (r : Request) : Bool :=
  match t.state, t.stack with
  | .idle, _ => true
  | .suspended, [rec] => runsBeside prof rec r
  | _, _ => false

/-- The device of a job. -/
def JobKind.device : JobKind → Device
  | .request r _ => r.device
  | .tracker _ d => d

/-- A bus job for the device is in progress. -/
def State.jobFor (s : State) (d : Device) : Bool :=
  match s.job with
  | some j => j.kind.device == d
  | Option.none => false

/-- A SUSPEND job for the device is in progress. -/
def State.suspendingJob (s : State) (d : Device) : Bool :=
  match s.job with
  | some j => j.kind == .tracker .suspend d
  | Option.none => false

/-- A request that passes the start order is eligible (R98, R99). -/
def State.eligible (s : State) (r : Request) : Bool :=
  (s.tracker r.device).admits (s.profile r.device) r && !s.jobFor r.device && !(s.tracker r.device).wantsAny

/-- The kinds of request and record, and the profile's permission, of a suspend candidate (R73, condition 3). -/
def suspendPermitted (prof : Profile) (rec : OpRecord) (r : Request) : Bool :=
  match r.work, rec.kind with
  | .read, .program => prof.suspendProgramAllowed
  | .read, .erase => prof.suspendEraseAllowed
  | .program _, .erase => prof.suspendEraseAllowed && prof.programInEraseSuspend
  | .program _, .program => false
  | .erase _, _ => false

/-- A request that passes the start order is a suspend candidate of device d (R73, conditions 2 to 5). -/
def State.candidate (s : State) (d : Device) (r : Request) : Bool :=
  r.device == d &&
    match (s.tracker d).state, (s.tracker d).stack with
    | .running, [rec] =>
      rec.state == .running && !rec.ending && suspendPermitted (s.profile d) rec r
        && !rec.overlapsRequest r && decide (rec.suspendCount < (s.profile d).suspendLimit)
    | _, _ => false

/-- Some waiting request is a suspend candidate of the device (R74). -/
def State.hasCandidate (s : State) (d : Device) : Bool :=
  (leaders (s.queue .A)).any (s.candidate d) || (leaders (s.queue .B)).any (s.candidate d)

/-- Some waiting request can use the suspended state of the device: it would be eligible if the tracker wanted
no job (R86). -/
def State.hasUser (s : State) (d : Device) : Bool :=
  let uses := fun r : Request => r.device == d && (s.tracker d).admits (s.profile d) r
  (leaders (s.queue .A)).any uses || (leaders (s.queue .B)).any uses

/-! ## The trackers' wants for SUSPEND and RESUME (R74, R86, R87) -/

/-- The wants as they stand after an event. SUSPEND is wanted while a candidate exists, and not again while the
SUSPEND job itself is in progress (assumption 15). RESUME, once wanted, stands while the tracker is SUSPENDED;
it comes to be wanted when no job for the device is in progress and no waiting request can use the suspended
state. -/
def State.rewant (s : State) (d : Device) (t : Tracker) : Tracker :=
  { t with
    wantSuspend := t.state == .running && s.hasCandidate d && !s.suspendingJob d
    wantResume := t.state == .suspended && t.stack.length == 1
      && (t.wantResume || (!s.jobFor d && !s.hasUser d)) }

/-- Every tracker reconsiders its wants for SUSPEND and RESUME. -/
def State.reconsider (s : State) : State :=
  { s with trackers := s.trackers.mapFinIdx fun i t h => s.rewant ⟨i, h⟩ t }

/-- The close of an event that can queue responses and raise notices: the trackers reconsider their wants, each
outbound unit moves its pending notices (R138, assumption 13), and the attention lines follow (R140). -/
def State.close (s : State) : State := ((s.reconsider.moveNotices .A).moveNotices .B).driveAttention

/-! ## Recovery (R62) -/

/-- A tracker enters RECOVERING: every record that is not yet ending is set to LOST, the poll and suspend settle
timers are disarmed and the deadline of every record held, POLL, SUSPEND and RESUME are withdrawn, and a RESET is wanted. The record whose status is
the cause has it set before. -/
def Tracker.recover (t : Tracker) (cause : Cause) : Tracker :=
  { t with
    state := .recovering
    stack := t.stack.map fun rec => { rec with deadlineDue := false, endStatus := some (rec.endStatus.getD .lost) }
    wantPoll := false
    wantSuspend := false
    wantResume := false
    wantReset := true
    pollTimer := Option.none
    suspendSettle := Option.none
    cause := some cause }

/-- The top record of a tracker ends TIMEOUT: the consecutive-timeout count rises and the tracker enters
RECOVERING (R60, R79). -/
def Tracker.timeOut (t : Tracker) (top : OpRecord) (rest : List OpRecord) : Tracker :=
  { t with
    stack := { top with endStatus := some .timeout } :: rest
    timeouts := t.timeouts + 1 }.recover .timeout

/-! ## Free values -/

/-- The state with n more free values counted as taken. -/
def State.countFree (s : State) (n : Nat) : State := { s with freeCount := s.freeCount + n }

/-! ## Outcomes -/

/-- An event of a powered part. Without power there is no part for the event to reach, and the state stays
(assumption 4). -/
def State.powered (s : State) (t : State) : Host.Outcome State Fault Refusal :=
  .next (if s.power = .off then s else t)

end Sys2Proof.Machine
end

