-- ==== Sys2Proof/Machine/Bus.lean ====
section
/-! DEFINITION. The downstream bus: the arbiter's grant (05), the command sequence of each job (02 section 2.5),
and what each job's completion hands on (02 R42; 03; 04; 05 R105). -/

namespace Sys2Proof.Machine

/-! ## Command sequences (R41, R43 to R46) -/

/-- What the controller drives in a select period, byte by byte: what it sends, then FFh while it takes data in
(R41). -/
def SelectPeriod.driven (x : SelectPeriod) : List Byte := x.sent ++ List.replicate x.takes Config.fillByte

/-- The select periods of a READ job, of a PROGRAM start and of an ERASE start (R43, R44). -/
def requestSelects (prof : Profile) (r : Request) : List SelectPeriod :=
  let address := addressBytes prof.addressBytes r.start
  match r.work with
  | .read =>
    [{ device := r.device,
       sent := [prof.readCommand] ++ address ++ List.replicate prof.readDummy Config.fillByte,
       takes := r.count }]
  | .program data =>
    [{ device := r.device, sent := [prof.writeEnable], takes := 0 },
     { device := r.device, sent := [prof.programCommand] ++ address ++ data, takes := 0 }]
  | .erase u =>
    [{ device := r.device, sent := [prof.writeEnable], takes := 0 },
     { device := r.device, sent := ((prof.unit? u).map EraseUnit.command).toList ++ address, takes := 0 }]

/-- The select periods of a tracker's job (R45, R46). -/
def trackerSelects (prof : Profile) (k : TrackerJob) (d : Device) : List SelectPeriod :=
  match k with
  | .poll => [{ device := d, sent := [prof.statusCommand], takes := 1 }]
  | .suspend => [{ device := d, sent := (prof.suspendResume.map Prod.fst).toList, takes := 0 }]
  | .resume => [{ device := d, sent := (prof.suspendResume.map Prod.snd).toList, takes := 0 }]
  | .reset => prof.resetSequence.map fun c => { device := d, sent := [c], takes := 0 }

/-! ## The grant (R94 to R96) -/

/-- The lowest-numbered device whose tracker meets a test. -/
def State.lowestDevice (s : State) (test : Tracker → Bool) : Option Device :=
  allDevices.find? fun d => test (s.tracker d)

/-- The oldest eligible request of a port's queue (R96). -/
def State.oldestEligible (s : State) (p : Port) : Option Request := (leaders (s.queue p)).find? s.eligible

/-- The request job of class 4: the port other than the last-granted port is offered first (R96). -/
def State.nextRequest (s : State) : Option Request :=
  (s.oldestEligible s.lastGranted.other).or (s.oldestEligible s.lastGranted)

/-- The job the arbiter grants: the first class that holds a candidate, and the choice within it (R95). -/
def State.nextGrant (s : State) : Option JobKind :=
  match s.lowestDevice Tracker.wantReset with
  | some d => some (.tracker .reset d)
  | Option.none =>
  match s.lowestDevice fun t => t.wantSuspend || t.wantResume with
  | some d => some (.tracker (if (s.tracker d).wantSuspend then .suspend else .resume) d)
  | Option.none =>
  match s.lowestDevice Tracker.wantPoll with
  | some d => some (.tracker .poll d)
  | Option.none => s.nextRequest.map fun r => .request r false

/-- The tracker at the grant of its job: the job ceases to be wanted (R49). -/
def Tracker.granted (t : Tracker) : TrackerJob → Tracker
  | .poll => { t with wantPoll := false }
  | .suspend => { t with wantSuspend := false }
  | .resume => { t with wantResume := false }
  | .reset => { t with wantReset := false }

/-- The grant of a job: a tracker's job ceases to be wanted, and a request leaves its port queue and sets the
last-granted port; the job is then the controller's (R93, R94, R102, R103). -/
def State.grant (s : State) : JobKind → State
  | .tracker k d =>
    (s.setTracker d ((s.tracker d).granted k)).setJob
      (some { kind := .tracker k d, selects := trackerSelects (s.profile d) k d })
  | .request r m =>
    { s.setQueue r.port ((s.queue r.port).erase r) with lastGranted := r.port }.setJob
      (some { kind := .request r m, selects := requestSelects (s.profile r.device) r })

/-- BUS_GRANT: with the bus free and a job to be granted, one job is granted; otherwise the arbiter waits
(R94). -/
def State.busGrant (s : State) : State :=
  match s.job, s.nextGrant with
  | Option.none, some k => (s.grant k).reconsider
  | _, _ => s

/-- BUS_GRANT. -/
def execBusGrant (s : State) : Host.Outcome State Fault Refusal := s.powered s.busGrant

/-! ## READ completion (R105 to R107) -/

/-- The bytes a data phase takes in: what the device drives, and where it drives nothing the bytes the bus lines
show, which are free (R38, R105, assumption 11). The spec does not say what a READ takes in whose device drives only
its first bytes: DESIGN CHOICE, those bytes are the driven ones, and each byte after them is a free value of its own,
not used before. -/
def State.takenIn (s : State) (driven : List Byte) (count : Nat) : List Byte :=
  (List.range count).map fun i => driven.getD i (Config.busLineByte (s.freeCount + (i - driven.length)))

/-- The response to a READ at its job's completion: DONE with the bytes, or ABORTED if the job is marked (R105,
R106). -/
def State.readResponse (s : State) (r : Request) (aborted : Bool) (driven : List Byte) : Message :=
  if aborted then plainResponse .read r.tag .aborted
  else .response .read r.tag .done (.bytes (s.takenIn driven r.count))

/-- READ_JOB_COMPLETE: within a reset sequence the bytes are discarded (R107); otherwise the READ is answered. -/
def State.readJobComplete (s : State) (driven : List Byte) : State :=
  match s.job with
  | some { kind := .request r m, .. } =>
    if r.work = .read then
      let s₁ := (s.setJob Option.none).countFree (r.count - driven.length)
      if s.part = .resetting then s₁
      else (s₁.answer r.port (s.readResponse r m driven) r.window r.device).close
    else s
  | _ => s

/-- READ_JOB_COMPLETE. -/
def execReadJobComplete (driven : List Byte) (s : State) : Host.Outcome State Fault Refusal :=
  s.powered (s.readJobComplete driven)

/-! ## Start job completion (R54, R83, R174, R179) -/

/-- The record that a request becomes at its start job's completion (03 section 3.2, R54). -/
def Request.toRecord (r : Request) (prof : Profile) (marked : Bool) (endStatus : Option EndStatus) : OpRecord where
  port := r.port
  tag := r.tag
  kind := match r.work with
    | .erase _ => .erase
    | .program _ | .read => .program
  start := r.start
  length := r.count
  unit := match r.work with
    | .erase u => some u
    | .program _ | .read => Option.none
  window := r.window
  limit := match r.work with
    | .erase u => ((prof.unit? u).map EraseUnit.limit).getD 0
    | .program _ | .read => prof.programLimit
  state := .running
  busyTime := 0
  suspendCount := 0
  abortMark := marked
  deadlineDue := false
  endStatus := endStatus

/-- The tracker at a start job's completion (the tables of R54 and R174): pushed RUNNING, or marked and going
into recovery, or, on a RECOVERING tracker, ending LOST or, if marked, ABORTED. -/
def Tracker.push (t : Tracker) (prof : Profile) (r : Request) (marked : Bool) : Tracker :=
  if t.state = .recovering then
    { t with stack := r.toRecord prof marked (some (if marked then .aborted else .lost)) :: t.stack }
  else if marked then
    { t with stack := r.toRecord prof true (some .aborted) :: t.stack }.recover .aborted
  else
    { t with
      stack := r.toRecord prof false Option.none :: t.stack
      state := .running
      pollTimer := some prof.pollInterval }

/-- Within a warm reset a start job's completion pushes nothing; an IDLE tracker becomes RECOVERING and wants a
RESET (R179). -/
def Tracker.startDiscarded (t : Tracker) : Tracker :=
  if t.state = .idle then { t with state := .recovering, wantReset := true } else t

/-- START_JOB_COMPLETE (R54, R174, R179). -/
def State.startJobComplete (s : State) : State :=
  match s.job with
  | some { kind := .request r m, .. } =>
    if r.work = .read then s
    else
      let t := s.tracker r.device
      let s₁ := s.setJob Option.none
      if s.part = .resetting then s₁.setTracker r.device t.startDiscarded
      else (s₁.setTracker r.device (t.push (s.profile r.device) r m)).reconsider
  | _ => s

/-- START_JOB_COMPLETE. -/
def execStartJobComplete (s : State) : Host.Outcome State Fault Refusal := s.powered s.startJobComplete

/-! ## POLL completion (R57, R58, R77, R78) -/

/-- What a poll result does to the top record (the tables of R57 and R77). -/
inductive PollEffect where
  /-- The completion is for a tracker that no longer awaits it (R59). -/
  | discarded
  /-- The record goes on; the poll timer is armed. -/
  | goesOn
  /-- The suspension has taken hold. -/
  | suspended
  /-- The operation has finished. -/
  | finished (status : EndStatus)
  deriving DecidableEq, Repr

/-- A bit of the status byte is set; an absent bit is clear. -/
def statusBit (status : Byte) : Option Nat → Bool
  | some i => status.getLsbD i
  | Option.none => false

/-- Busy clear: the error bit decides (R57, R77). -/
def finishedStatus (prof : Profile) (status : Byte) : EndStatus :=
  if statusBit status prof.errorBit then .deviceError else .done

/-- The effect of a status byte on a tracker. The suspended bit is read first in SUSPENDING, and not consulted in
RUNNING. -/
def Tracker.pollEffect (t : Tracker) (prof : Profile) (status : Byte) : PollEffect :=
  match t.stack with
  | [] => .discarded
  | top :: _ =>
    if top.ending then .discarded
    else match t.state with
      | .running => if status.getLsbD prof.busyBit then .goesOn else .finished (finishedStatus prof status)
      | .suspending =>
        if statusBit status prof.suspendedBit then .suspended
        else if status.getLsbD prof.busyBit then .goesOn
        else .finished (finishedStatus prof status)
      | .offline | .idle | .suspended | .recovering | .faulted => .discarded

/-- The tracker whose suspension has taken hold (R77): busy time stops, and a deadline that was due is held with it
(R61, R81). -/
def Tracker.holdSuspended (t : Tracker) : Tracker :=
  { t with
    state := .suspended
    stack := match t.stack with
      | top :: rest =>
        { top with state := .suspended, suspendCount := top.suspendCount + 1, deadlineDue := false } :: rest
      | [] => []
    wantPoll := false
    pollTimer := Option.none
    suspendSettle := Option.none }

/-- The tracker whose top record a poll has ended: the record popped, the consecutive-timeout count 0, the timers
disarmed, IDLE or, above a suspended ERASE, SUSPENDED (R58). -/
def Tracker.popTop (t : Tracker) : Tracker :=
  { t with
    state := if t.stack.tail.isEmpty then .idle else .suspended
    stack := t.stack.tail
    wantPoll := false
    pollTimer := Option.none
    suspendSettle := Option.none
    timeouts := 0 }

/-- The answer to an op record: its response, then its counts (R58, R63). -/
def State.answerRecord (s : State) (d : Device) (rec : OpRecord) (st : Status) : State :=
  s.answer rec.port (plainResponse rec.kind.kind rec.tag st) rec.window d

/-- The response to the top record that a poll has ended (R58, step 1). -/
def State.answerTop (s : State) (d : Device) (st : EndStatus) : State :=
  match (s.tracker d).stack with
  | top :: _ => s.answerRecord d top st.status
  | [] => s

/-- A poll result is taken by the tracker of device d (R57, R58, R77, R78). -/
def State.pollResult (s : State) (d : Device) (status : Byte) : State :=
  let t := s.tracker d
  let prof := s.profile d
  match t.pollEffect prof status with
  | .discarded => s
  | .goesOn => s.setTracker d { t with pollTimer := some prof.pollInterval }
  | .suspended => s.setTracker d t.holdSuspended
  | .finished st =>
    let s₁ := s.answerTop d st
    s₁.setTracker d (s₁.tracker d).popTop

/-- POLL_COMPLETE: the status byte is the device's, or whatever the bus lines show (R38); within a reset sequence
the completion is discarded (R179). -/
def State.pollComplete (s : State) (status : Option Byte) : State :=
  match s.job with
  | some { kind := .tracker .poll d, .. } =>
    let s₁ := (s.setJob Option.none).countFree (if status.isNone then 1 else 0)
    if s.part = .resetting then s₁
    else (s₁.pollResult d (status.getD (Config.busLineByte s.freeCount))).close
  | _ => s

/-- POLL_COMPLETE. -/
def execPollComplete (status : Option Byte) (s : State) : Host.Outcome State Fault Refusal :=
  s.powered (s.pollComplete status)

/-! ## SUSPEND, RESUME and RESET completion (R76, R88, R63) -/

/-- The tracker at a SUSPEND completion: SUSPENDING, the settle timer armed, a wanted POLL withdrawn, the poll
timer armed afresh; discarded unless it is RUNNING with a record that is not ending (R59, R76). -/
def Tracker.suspendDone (t : Tracker) (prof : Profile) : Tracker :=
  match t.state, t.stack with
  | .running, top :: rest =>
    if top.ending then t
    else
      { t with
        state := .suspending
        stack := { top with state := .suspending } :: rest
        wantPoll := false
        suspendSettle := some prof.settleLimit
        pollTimer := some prof.pollInterval }
  | _, _ => t

/-- SUSPEND_COMPLETE (R76); within a reset sequence discarded (R179). -/
def State.suspendComplete (s : State) : State :=
  match s.job with
  | some { kind := .tracker .suspend d, .. } =>
    let s₁ := s.setJob Option.none
    if s.part = .resetting then s₁
    else (s₁.setTracker d ((s.tracker d).suspendDone (s.profile d))).reconsider
  | _ => s

/-- SUSPEND_COMPLETE. -/
def execSuspendComplete (s : State) : Host.Outcome State Fault Refusal := s.powered s.suspendComplete

/-- The tracker at a RESUME completion: the top record RUNNING again, the poll timer armed; discarded unless the
tracker is SUSPENDED (R59, R88). -/
def Tracker.resumeDone (t : Tracker) (prof : Profile) : Tracker :=
  match t.state, t.stack with
  | .suspended, top :: rest =>
    { t with
      state := .running
      stack := { top with state := .running } :: rest
      pollTimer := some prof.pollInterval }
  | _, _ => t

/-- RESUME_COMPLETE (R88); within a reset sequence discarded (R179). -/
def State.resumeComplete (s : State) : State :=
  match s.job with
  | some { kind := .tracker .resume d, .. } =>
    let s₁ := s.setJob Option.none
    if s.part = .resetting then s₁
    else (s₁.setTracker d ((s.tracker d).resumeDone (s.profile d))).reconsider
  | _ => s

/-- RESUME_COMPLETE. -/
def execResumeComplete (s : State) : Host.Outcome State Fault Refusal := s.powered s.resumeComplete

/-- Every record of a list is answered with its end status, in order (R63). -/
def State.answerAll (s : State) (d : Device) : List OpRecord → State
  | [] => s
  | rec :: rest => (s.answerRecord d rec (rec.endStatus.getD .lost).status).answerAll d rest

/-- A RESET completion reaches its tracker: every record on the stack is answered, top first, and the reset
settle timer is armed (R63). -/
def State.resetDone (s : State) (d : Device) : State :=
  let s₁ := s.answerAll d (s.tracker d).stack
  s₁.setTracker d { s₁.tracker d with stack := [], resetSettle := some (s.profile d).resetSettle }

/-- RESET_JOB_COMPLETE (R63, R181). A RESET job of a recovery that a warm reset sequence has taken over is
discarded: its tracker still wants the sequence's own RESET (R179, assumption 19). -/
def State.resetJobComplete (s : State) : State :=
  match s.job with
  | some { kind := .tracker .reset d, .. } =>
    let s₁ := s.setJob Option.none
    if s.part = .resetting ∧ (s.tracker d).wantReset then s₁ else (s₁.resetDone d).close
  | _ => s

/-- RESET_JOB_COMPLETE. -/
def execResetJobComplete (s : State) : Host.Outcome State Fault Refusal := s.powered s.resetJobComplete

end Sys2Proof.Machine
end

