-- ==== Sys2Proof/Machine/Requests.lean ====
section
/-! DEFINITION. Intake (06) and the memory requests: NULL, READ, PROGRAM, ERASE with the length check, translation
and its refusals (01 section 1.3). -/

namespace Sys2Proof.Machine

/-! ## Intake (R113) -/

/-- The groups of request kinds that intake tells apart (R112). -/
inductive Group where
  | collect
  | unknown
  | memory
  | control
  deriving DecidableEq, Repr

/-- The request that the job in progress holds and that is still owed a response: one that a reset sequence
discarded is owed none (R178, R186). -/
def State.flight (s : State) : List Request :=
  match s.part, s.job with
  | .operating, some { kind := .request r _, .. } => [r]
  | _, _ => []

/-- The op records of all trackers. -/
def State.records (s : State) : List OpRecord := s.trackers.toList.flatMap Tracker.stack

/-- The tags of a port's accepted requests that still hold a reservation: waiting, in flight, or op records
(R117). A control request is answered in the event of its acceptance. -/
def State.unansweredTags (s : State) (p : Port) : List Byte :=
  (s.queue p).map Request.tag ++ ((s.flight.filter fun r => r.port == p).map Request.tag)
    ++ ((s.records.filter fun r => r.port == p).map OpRecord.tag)

/-- The tag of a response; a NOTICE makes no tag outstanding (R117). -/
def Message.responseTag : Message → Option Byte
  | .response _ t _ _ => some t
  | .notice _ => Option.none

/-- The outstanding tags of a port (R117). -/
def State.outstandingTags (s : State) (p : Port) : List Byte :=
  s.unansweredTags p ++ (s.out p).queue.filterMap Message.responseTag

/-- The verdict of intake on a valid frame's request: the first check of R113 that decides. -/
def State.intakeVerdict (s : State) (p : Port) (tag : Byte) (g : Group) : ReceiptCode :=
  if s.part = .resetting then .resetting
  else if g = .collect then .idleFrame
  else if g = .unknown then .unknownKind
  else if tag ∈ s.outstandingTags p then .tagBusy
  else if g = .memory ∧ (s.queue p).length = Config.queueCapacity then .queueFull
  else if (s.out p).sum = Config.outboundCapacity then .noSlot
  else .accepted

/-- A reservation is taken for an accepted request (R122). -/
def State.accept (s : State) (p : Port) : State := s.setOut p (s.out p).reserve

/-- The receipt register is written, the last step of a frame end (R149, R153). -/
def State.writeReceipt (s : State) (p : Port) (tag : Byte) (code : ReceiptCode) : State :=
  s.setLink p { s.link p with receipt := { tag := tag, code := code } }

/-- Intake acts on the request of a valid frame, and the receipt is written: steps 3 and 4 of R153. An accepted
request takes its reservation and is handed on in the same event (R122). -/
def State.intake (s : State) (p : Port) (tag : Byte) (g : Group) (handOn : State → State) : State :=
  let code := s.intakeVerdict p tag g
  (if code = .accepted then handOn (s.accept p) else s).writeReceipt p tag code

/-! ## Translation (R8 to R19) -/

/-- What a memory request asks for, before translation. -/
inductive Ask where
  | read (length : Nat)
  | program (data : List Byte)
  /-- The size in KiB. -/
  | erase (sizeKiB : Nat)
  deriving DecidableEq, Repr

/-- The request kind of an ask. -/
def Ask.kind : Ask → RequestKind
  | .read _ => .read
  | .program _ => .program
  | .erase _ => .erase

/-- The number of bytes of the requested range (R8): an ERASE of size 0 has a range of one byte. -/
def Ask.count : Ask → Nat
  | .read n => n
  | .program data => data.length
  | .erase k => if k = 0 then 1 else 1024 * k

/-- The length check, made before translation (R8, R123). -/
def Ask.lengthOk : Ask → Bool
  | .read n => within 1 n 256
  | .program data => within 1 data.length 256
  | .erase _ => true

/-- The right an ask needs is in the rights set (R11). -/
def Ask.allowedBy (r : Rights) : Ask → Bool
  | .read _ => r.read
  | .program _ => r.program
  | .erase _ => r.erase

/-- The result of translation: a refusal, with the window it was found in if any, or the request to be queued. -/
inductive Translation where
  | refused (status : Status) (window : Option WindowNo)
  | translated (r : Request)
  deriving DecidableEq, Repr

/-- The window is ACTIVE, owned by the port, and its logical range contains the address (R9). -/
def Window.covers (w : Window) (p : Port) (a : Nat) : Bool :=
  w.active && w.owners.get p && w.logicalBase.toNat ≤ a && a < w.logicalBase.toNat + w.size

/-- Step 1: the window that covers the first byte for the port (R9). By the law of R2 there is at most one. -/
def State.findWindow (s : State) (p : Port) (a : Nat) : Option WindowNo :=
  (List.finRange 16).find? fun w => (s.window w).covers p a

/-- The number, 1 to 3, of the erase unit of a size in bytes (R16). -/
def Profile.unitOfSize (prof : Profile) (bytes : Nat) : Option Nat :=
  (prof.eraseUnits.findIdx? fun u => u.size == bytes).map (· + 1)

/-- Step 7: the page of a PROGRAM, the erase unit of an ERASE (R15, R16). The answer is the work of the
translated request, or the status of the refusal. -/
def kindCheck (prof : Profile) (start count : Nat) : Ask → Status ⊕ Work
  | .read _ => .inr .read
  | .program data =>
    if start / prof.pageSize = (start + count - 1) / prof.pageSize then .inr (.program data)
    else .inl .pageCross
  | .erase k =>
    match prof.unitOfSize (1024 * k) with
    | some u => if start % (1024 * k) = 0 then .inr (.erase u) else .inl .misaligned
    | Option.none => .inl .misaligned

/-- Translation of a memory request that has passed the length check: steps 1 to 7 in order (R9 to R17). -/
def State.translate (s : State) (p : Port) (tag : Byte) (address : Word) (ask : Ask) : Translation :=
  match s.findWindow p address.toNat with
  | Option.none => .refused .noWindow Option.none
  | some w =>
    let v := s.window w
    let last := address.toNat + ask.count - 1
    let prof := s.profile v.device
    let start := v.activeBase + (address.toNat - v.logicalBase.toNat)
    if v.logicalBase.toNat + v.size ≤ last then .refused .boundary (some w)
    else if ¬ ask.allowedBy (v.rights.get p) then .refused .denied (some w)
    else if v.swapPending then .refused .swapPending (some w)
    else if (s.tracker v.device).state = .offline then .refused .noDevice (some w)
    else if (s.tracker v.device).state = .faulted then .refused .deviceFault (some w)
    else if prof.capacity ≤ start + ask.count - 1 then .refused .outOfDevice (some w)
    else match kindCheck prof start ask.count ask with
      | .inl st => .refused st (some w)
      | .inr work => .translated
          { port := p, tag := tag, work := work, window := w, device := v.device, start := start,
            count := ask.count }

/-- The length check and then translation (R8, R123). -/
def State.check (s : State) (p : Port) (tag : Byte) (address : Word) (ask : Ask) : Translation :=
  if ask.lengthOk then s.translate p tag address ask else .refused .badLength Option.none

/-- A refusal status that the denial count counts (R19, R166). -/
def countsAsDenial : Status → Bool
  | .noWindow | .boundary | .denied => true
  | _ => false

/-- The denial count of a port rises (R166). -/
def State.raiseDenials (s : State) (p : Port) : State :=
  { s with denials := s.denials.set p (bumpHalf (s.denials.get p)) }

/-- The window of a refusal has report yes. -/
def State.reports (s : State) : Option WindowNo → Bool
  | some w => (s.window w).report
  | Option.none => false

/-- The DENIAL notice of a BOUNDARY or DENIED refusal through a window with report yes, raised on the manager
(R19). -/
def State.raiseDenialNotice (s : State) (status : Status) (w : Option WindowNo) : State :=
  if (status = .boundary ∨ status = .denied) ∧ s.reports w then s.raise s.manager (.denial 1) else s

/-- A refused memory request is answered at once; NO_WINDOW, BOUNDARY and DENIED raise the denial count and may
raise a DENIAL notice, after the response (R18, R19). -/
def State.refuse (s : State) (p : Port) (tag : Byte) (k : RequestKind) (status : Status)
    (w : Option WindowNo) : State :=
  let s' := s.respond p (plainResponse k tag status)
  if countsAsDenial status then (s'.raiseDenials p).raiseDenialNotice status w else s'

/-- A translated request joins the tail of its port queue; its window's use count and its device's reference
count rise by 1 (R17). -/
def State.enqueue (s : State) (r : Request) : State :=
  let s₁ := s.setQueue r.port (s.queue r.port ++ [r])
  let s₂ := s₁.setWindow r.window
    { s₁.window r.window with useCount := (s₁.window r.window).useCount + 1 }
  s₂.setTracker r.device { s₂.tracker r.device with refCount := (s₂.tracker r.device).refCount + 1 }

/-- The handling of an accepted memory request (R123). -/
def State.memoryRequest (s : State) (p : Port) (tag : Byte) (address : Word) (ask : Ask) : State :=
  (match s.check p tag address ask with
    | .refused status w => s.refuse p tag ask.kind status w
    | .translated r => s.enqueue r).close

/-! ## The four request kinds -/

/-- NULL: intake gives IDLE_FRAME, or RESETTING, and nothing else is done (R115). -/
def State.nullRequest (s : State) (p : Port) (tag : Byte) : State := s.intake p tag .collect id

/-- A request of an unknown kind: UNKNOWN_KIND, or RESETTING (R116). -/
def State.unknownRequest (s : State) (p : Port) (tag : Byte) : State := s.intake p tag .unknown id

/-- READ (R8 to R19). -/
def State.readRequest (s : State) (p : Port) (tag : Byte) (address : Word) (length : Half) : State :=
  s.intake p tag .memory fun s => s.memoryRequest p tag address (.read length.toNat)

/-- PROGRAM (R8 to R19). -/
def State.programRequest (s : State) (p : Port) (tag : Byte) (address : Word) (data : List Byte) : State :=
  s.intake p tag .memory fun s => s.memoryRequest p tag address (.program data)

/-- ERASE (R8 to R19). -/
def State.eraseRequest (s : State) (p : Port) (tag : Byte) (address : Word) (sizeKiB : Half) : State :=
  s.intake p tag .memory fun s => s.memoryRequest p tag address (.erase sizeKiB.toNat)

/-- NULL. -/
def execNull (p : Port) (tag : Byte) (s : State) : Host.Outcome State Fault Refusal :=
  s.powered (s.nullRequest p tag)

/-- READ. -/
def execRead (p : Port) (tag : Byte) (address : Word) (length : Half) (s : State) :
    Host.Outcome State Fault Refusal :=
  s.powered (s.readRequest p tag address length)

/-- PROGRAM. -/
def execProgram (p : Port) (tag : Byte) (address : Word) (data : List Byte) (s : State) :
    Host.Outcome State Fault Refusal :=
  s.powered (s.programRequest p tag address data)

/-- ERASE. -/
def execErase (p : Port) (tag : Byte) (address : Word) (sizeKiB : Half) (s : State) :
    Host.Outcome State Fault Refusal :=
  s.powered (s.eraseRequest p tag address sizeKiB)

end Sys2Proof.Machine
end

