-- ==== Sys2Proof/Machine/Resets.lean ====
section
/-! DEFINITION. Cold start, power-off, the warm and pin reset sequences (10 sections 10.3 to 10.5), and what each
does to every block. -/

namespace Sys2Proof.Machine

/-! ## The discard (R178, R183) -/

/-- A reset sequence takes a tracker over: its stack is emptied without responses, its wants withdrawn, its
timers disarmed, its cause and counts cleared (R69, R178). The new state and the want for a RESET are the
sequence's. -/
def takenOver (state : TrackerState) (wantReset : Bool) : Tracker :=
  { Tracker.cold with state := state, wantReset := wantReset }

/-- The trackers that a warm reset sequence resets: all but IDLE and OFFLINE (R178). -/
def TrackerState.needsReset : TrackerState → Bool
  | .offline | .idle => false
  | .running | .suspending | .suspended | .recovering | .faulted => true

/-- A tracker at the beginning of a warm reset sequence (R178, step 3). -/
def Tracker.warm (t : Tracker) : Tracker :=
  if t.state.needsReset then takenOver .recovering true else takenOver t.state false

/-- A tracker at the beginning of a pin reset sequence: RECOVERING where the profile is present, with no RESET
wanted yet (R183). -/
def Tracker.pinned (t : Tracker) (prof : Profile) : Tracker :=
  if prof.present then takenOver .recovering false else takenOver t.state false

/-- A window at the discard: use count 0, swap pending cleared without a flip (R7). -/
def Window.discard (w : Window) : Window := { w with useCount := 0, swapPending := false }

/-- A frame in progress when a reset sequence begins shifts out fill from then on, and its latched message no
longer exists (R155). -/
def Link.toFill (l : Link) : Link :=
  match l.select with
  | .frame f => { l with select := .frame { f with stream := [], latched := Option.none } }
  | .released | .ignored => l

/-- What the beginning of either reset sequence does to the part, apart from trackers and bus job: the part
state, the attention lines, the clear-step flag, the frames in progress, and the discard of every request,
message, notice and count (R178, steps 1 and 2). -/
def State.discard (s : State) : State :=
  { s with
    part := .resetting
    clearStep := false
    windows := s.windows.map Window.discard
    queues := { a := [], b := [] }
    outbound := { a := .empty, b := .empty }
    lastGranted := .B
    links := { a := s.links.a.toFill, b := s.links.b.toFill } }

/-- The beginning of a warm reset sequence (R178). The bus job in progress is left to run. -/
def State.warmBegin (s : State) : State :=
  { s.discard with trackers := s.trackers.map Tracker.warm }

/-- The beginning of a pin reset sequence (R183): the bus job is cut (R47). -/
def State.pinBegin (s : State) : State :=
  { s.discard with
    resetPin := true
    job := Option.none
    trackers := s.trackers.mapFinIdx fun i t h => t.pinned (s.profile ⟨i, h⟩) }

/-! ## The clear step and the end -/

/-- A link at the clear step: receipt (00h, NONE), bad-frame count 0 (R180). -/
def Link.clear (l : Link) : Link := { l with receipt := .cleared, badFrames := 0 }

/-- The clear step (R180). -/
def State.clear (s : State) : State :=
  { s with
    links := { a := s.links.a.clear, b := s.links.b.clear }
    denials := { a := 0, b := 0 }
    clearStep := true }

/-- A tracker at the release of the reset pin: every RECOVERING tracker comes to want a RESET (R183). -/
def Tracker.released (t : Tracker) : Tracker := { t with wantReset := t.wantReset || t.state == .recovering }

/-- The release of the reset pin, the clear step of the pin reset sequence (R183). -/
def State.pinRelease (s : State) : State :=
  { s.clear with resetPin := false, trackers := s.trackers.map Tracker.released }

/-- The part state is OPERATING, and RESET_DONE with the epoch is raised on both ports and moved (R182, R185). -/
def State.announce (s : State) (epoch : Half) : State :=
  let s₁ := { s with part := .operating }
  let s₂ := (s₁.raise .A (.resetDone epoch)).raise .B (.resetDone epoch)
  ((s₂.moveNotices .A).moveNotices .B).driveAttention

/-- The end of a reset sequence: the epoch rises by 1, from 65535 to 0, and RESET_DONE carries it (R182). -/
def State.sequenceEnd (s : State) : State := { s with epoch := s.epoch + 1 }.announce (s.epoch + 1)

/-- A reset sequence may end: its clear step is taken, no bus job is in progress, no tracker is RECOVERING
(R182). -/
def State.sequenceMayEnd (s : State) : Bool :=
  s.power == .on && s.part == .resetting && s.clearStep && s.job.isNone
    && s.trackers.all fun t => t.state != .recovering

/-- The clear step of a warm reset sequence may be taken: the sequence is under way and has not taken it. A pin
sequence's clear step is the release of the pin (R180, R183). -/
def State.clearMayBeTaken (s : State) : Bool :=
  s.power == .on && s.part == .resetting && !s.clearStep && !s.resetPin

/-! ## Cold start (R185) -/

/-- The select of a link is asserted, by its host, in a frame or not. -/
def Link.asserted (l : Link) : Bool := l.select != .released

/-- The event that ends cold start: both links as R156 gives them, a select asserted then being no frame (R143,
assumption 7; what its data line carries is assumption 24), OPERATING, RESET_DONE(0) on both
ports (R185). The release of a pin held at power-on is part of it. -/
def State.coldEnd (s : State) : State :=
  { s with
    power := .on
    resetPin := false
    links := { a := .cold s.links.a.asserted, b := .cold s.links.b.asserted } }.announce 0

/-- COLD_START: power-on brings every block to its cold value, whatever came before (R185, assumption 5). -/
def execColdStart (pinHeld selectA selectB : Bool) (s : State) : Host.Outcome State Fault Refusal :=
  .next (State.cold .coldStart pinHeld selectA selectB s.pending s.freeCount)

/-- COLD_START_END: taken while cold start has not ended; no event otherwise (assumption 2). -/
def execColdStartEnd (s : State) : Host.Outcome State Fault Refusal :=
  .next (if s.power = .coldStart then s.coldEnd else s)

/-- POWER_OFF: nothing of the part's state outlives it (R185, assumption 4). -/
def execPowerOff (s : State) : Host.Outcome State Fault Refusal :=
  .next (State.cold .off false false false s.pending s.freeCount)

/-- CLEAR_STEP (R180). -/
def execClearStep (s : State) : Host.Outcome State Fault Refusal :=
  .next (if s.clearMayBeTaken then s.clear else s)

/-- RESET_SEQUENCE_END (R182). -/
def execResetSequenceEnd (s : State) : Host.Outcome State Fault Refusal :=
  .next (if s.sequenceMayEnd then s.sequenceEnd else s)

/-- RESET_PIN_ASSERT (R183, R184): a pin already asserted is not asserted again; before cold start has ended the
assertion holds cold start (assumption 6). -/
def execResetPinAssert (s : State) : Host.Outcome State Fault Refusal :=
  .next (match s.power with
    | .off => s
    | .coldStart => { s with resetPin := true }
    | .on => if s.resetPin then s else s.pinBegin)

/-- RESET_PIN_RELEASE (R183); while a held pin holds cold start, the release ends it (R185). -/
def execResetPinRelease (s : State) : Host.Outcome State Fault Refusal :=
  .next (if s.resetPin then
    match s.power with
    | .off => s
    | .coldStart => s.coldEnd
    | .on => s.pinRelease
  else s)

end Sys2Proof.Machine
end

