-- ==== Sys2Proof/Machine/Control.lean ====
section
/-! DEFINITION. The control requests: WINDOW_WRITE, WINDOW_READ, SWAP (01), PROFILE_WRITE, PROFILE_READ (02),
FREEZE, HANDOVER, STATUS_READ (09), ABORT and WARM_RESET (10). Each is handed on by intake and carried out at
once (R124). -/

namespace Sys2Proof.Machine

/-- The answer to a control request: its one response, on the requesting port (R124). -/
def State.reply (s : State) (p : Port) (k : RequestKind) (tag : Byte) (st : Status)
    (data : ResponseData := .absent) : State :=
  (s.respond p (.response k tag st data)).driveAttention

/-- The tracker does work or recovers: its profile is not to be changed (R35, check 4). -/
def TrackerState.busy : TrackerState → Bool
  | .running | .suspending | .suspended | .recovering => true
  | .offline | .idle | .faulted => false

/-! ## Windows (R20 to R25) -/

/-- Two window entries share an owner port (R2). -/
def sharesOwner (v w : Window) : Bool := (v.owners.a && w.owners.a) || (v.owners.b && w.owners.b)

/-- Two ACTIVE windows that share an owner have overlapping logical ranges (R2, R20). -/
def Window.collides (v w : Window) : Bool :=
  v.active && w.active && sharesOwner v w && overlaps v.logicalBase.toNat v.size w.logicalBase.toNat w.size

/-- A new entry for window n overlaps another window of a shared owner; n's old content is skipped (R22). -/
def State.wouldOverlap (s : State) (n : WindowNo) (v : Window) : Bool :=
  (List.finRange 16).any fun m => m != n && v.collides (s.window m)

/-- The checks of WINDOW_WRITE in order (R20): the refusal, or the window to be written. -/
def State.windowWriteCheck (s : State) (p : Port) (number : Word) (r : WindowRecord) : Status ⊕ WindowNo :=
  if p ≠ s.manager then .inl .notManager
  else if s.frozen then .inl .frozen
  else match windowNumber number with
    | Option.none => .inl .badArgument
    | some n =>
      if 0 < (s.window n).useCount ∨ (s.window n).swapPending then .inl .inUse
      else if ¬ r.valid then .inl .badArgument
      else if s.wouldOverlap n r.toWindow then .inl .overlap
      else .inr n

/-- WINDOW_WRITE handed on: a refusal changes nothing, a success replaces the entry whole (R20, R22). -/
def State.windowWriteDo (s : State) (p : Port) (tag : Byte) (number : Word) (r : WindowRecord) : State :=
  match s.windowWriteCheck p number r with
  | .inl st => s.reply p .windowWrite tag st
  | .inr n => (s.setWindow n r.toWindow).reply p .windowWrite tag .done

/-- WINDOW_WRITE (R20 to R22). -/
def State.windowWriteRequest (s : State) (p : Port) (tag : Byte) (number : Word) (r : WindowRecord) : State :=
  s.intake p tag .control fun s => s.windowWriteDo p tag number r

/-- WINDOW_READ handed on (R23). -/
def State.windowReadDo (s : State) (p : Port) (tag : Byte) (number : Word) : State :=
  match windowNumber number with
  | Option.none => s.reply p .windowRead tag .badArgument
  | some n =>
    if p ≠ s.manager ∧ ¬ (s.window n).owners.get p then s.reply p .windowRead tag .denied
    else s.reply p .windowRead tag .done (.window (s.window n).toRecord)

/-- WINDOW_READ (R23). -/
def State.windowReadRequest (s : State) (p : Port) (tag : Byte) (number : Word) : State :=
  s.intake p tag .control fun s => s.windowReadDo p tag number

/-- The checks of SWAP in order (R24): the refusal, or the window to be swapped. -/
def State.swapCheck (s : State) (p : Port) (number : Word) : Status ⊕ WindowNo :=
  if p ≠ s.manager then .inl .notManager
  else match windowNumber number with
    | Option.none => .inl .badArgument
    | some n =>
      let v := s.window n
      if ¬ v.active ∨ v.bank1.isNone then .inl .badArgument
      else if s.frozen ∧ ¬ v.swapOpen then .inl .frozen
      else if v.swapPending then .inl .swapPending
      else .inr n

/-- SWAP handed on: the bank flips at once when the use count is 0, and the swap is deferred otherwise
(R24, R25). -/
def State.swapDo (s : State) (p : Port) (tag : Byte) (number : Word) : State :=
  match s.swapCheck p number with
  | .inl st => s.reply p .swap tag st
  | .inr n =>
    let v := s.window n
    if v.useCount = 0 then (s.setWindow n { v with activeBank := v.activeBank.flip }).reply p .swap tag .done
    else (s.setWindow n { v with swapPending := true }).reply p .swap tag .pending

/-- SWAP (R24, R25). -/
def State.swapRequest (s : State) (p : Port) (tag : Byte) (number : Word) : State :=
  s.intake p tag .control fun s => s.swapDo p tag number

/-! ## Profiles (R35 to R37) -/

/-- The checks of PROFILE_WRITE in order (R35): the refusal, or the device to be written. -/
def State.profileWriteCheck (s : State) (p : Port) (number : Word) (r : ProfileRecord) : Status ⊕ Device :=
  if p ≠ s.manager then .inl .notManager
  else if s.frozen then .inl .frozen
  else match deviceNumber number with
    | Option.none => .inl .badArgument
    | some d =>
      if (s.tracker d).state.busy ∨ 0 < (s.tracker d).refCount then .inl .deviceBusy
      else if ¬ r.valid then .inl .badArgument
      else .inr d

/-- The tracker after a successful PROFILE_WRITE: IDLE or OFFLINE by the new entry, consecutive-timeout count 0,
all timers disarmed (R36). -/
def Tracker.reprofiled (t : Tracker) (prof : Profile) : Tracker :=
  { t with
    state := if prof.present then .idle else .offline
    timeouts := 0
    pollTimer := Option.none
    suspendSettle := Option.none
    resetSettle := Option.none }

/-- PROFILE_WRITE handed on (R35, R36). -/
def State.profileWriteDo (s : State) (p : Port) (tag : Byte) (number : Word) (r : ProfileRecord) : State :=
  match s.profileWriteCheck p number r with
  | .inl st => s.reply p .profileWrite tag st
  | .inr d =>
    ((s.setProfile d r.toProfile).setTracker d ((s.tracker d).reprofiled r.toProfile)).reply
      p .profileWrite tag .done

/-- PROFILE_WRITE (R35, R36). -/
def State.profileWriteRequest (s : State) (p : Port) (tag : Byte) (number : Word) (r : ProfileRecord) : State :=
  s.intake p tag .control fun s => s.profileWriteDo p tag number r

/-- PROFILE_READ handed on (R37). -/
def State.profileReadDo (s : State) (p : Port) (tag : Byte) (number : Word) : State :=
  match deviceNumber number with
  | Option.none => s.reply p .profileRead tag .badArgument
  | some d => s.reply p .profileRead tag .done (.profile (s.profile d).toRecord)

/-- PROFILE_READ (R37). -/
def State.profileReadRequest (s : State) (p : Port) (tag : Byte) (number : Word) : State :=
  s.intake p tag .control fun s => s.profileReadDo p tag number

/-! ## FREEZE, HANDOVER, STATUS_READ (R160, R162, R164, R165) -/

/-- Some window that is not swap-open has swap pending (R162). -/
def State.swapBlocksFreeze (s : State) : Bool := s.windows.any fun w => w.swapPending && !w.swapOpen

/-- FREEZE handed on (R162). -/
def State.freezeDo (s : State) (p : Port) (tag : Byte) : State :=
  if p ≠ s.manager then s.reply p .freeze tag .notManager
  else if s.swapBlocksFreeze then s.reply p .freeze tag .swapPending
  else { s with frozen := true }.reply p .freeze tag .done

/-- FREEZE (R162). -/
def State.freezeRequest (s : State) (p : Port) (tag : Byte) : State :=
  s.intake p tag .control fun s => s.freezeDo p tag

/-- HANDOVER handed on: the manager changes, the response is queued, MANAGER_CHANGED is raised on both ports,
and the notices are moved (R160). -/
def State.handoverDo (s : State) (p : Port) (tag : Byte) : State :=
  if p ≠ s.manager then s.reply p .handover tag .notManager
  else if s.frozen then s.reply p .handover tag .frozen
  else
    ((({ s with manager := p.other }.respond p (plainResponse .handover tag .done)).raise p
      (.managerChanged p.other)).raise p.other (.managerChanged p.other)).close

/-- HANDOVER (R160). -/
def State.handoverRequest (s : State) (p : Port) (tag : Byte) : State :=
  s.intake p tag .control fun s => s.handoverDo p tag

/-- What a tracker reports in a status record (R71). -/
def Tracker.report (t : Tracker) : DeviceStatus where
  state := t.state
  depth := t.stack.length
  top := t.stack.head?.map OpRecord.kind
  timeouts := t.timeouts
  refCount := t.refCount

/-- What a port reports in a status record (R164). -/
def State.portStatus (s : State) (p : Port) : PortStatus where
  occupancy := (s.queue p).length
  reservations := (s.out p).reservations
  outbound := (s.out p).queue.length
  badFrames := (s.link p).badFrames
  denials := s.denials.get p

/-- The snapshot of STATUS_READ (R164). -/
def State.snapshot (s : State) : StatusRecord where
  epoch := s.epoch
  manager := s.manager
  frozen := s.frozen
  part := s.part
  devices := s.trackers.map Tracker.report
  ports := { a := s.portStatus .A, b := s.portStatus .B }

/-- A link with its bad-frame count at 0. -/
def Link.clearBadFrames (l : Link) : Link := { l with badFrames := 0 }

/-- The clearing of STATUS_READ: both bad-frame counts and both denial counts (R165). -/
def State.clearCounts (s : State) : State :=
  { s with
    links := { a := s.links.a.clearBadFrames, b := s.links.b.clearBadFrames }
    denials := { a := 0, b := 0 } }

/-- STATUS_READ handed on: the snapshot is taken before the clearing and before its own response is queued
(R164, R165). -/
def State.statusReadDo (s : State) (p : Port) (tag : Byte) (clear : Bool) : State :=
  if clear ∧ p ≠ s.manager then s.reply p .statusRead tag .notManager
  else (if clear then s.clearCounts else s).reply p .statusRead tag .done (.status s.snapshot)

/-- STATUS_READ (R164, R165). -/
def State.statusReadRequest (s : State) (p : Port) (tag : Byte) (clear : Bool) : State :=
  s.intake p tag .control fun s => s.statusReadDo p tag clear

/-! ## ABORT (R171 to R175) -/

/-- Where the target of an ABORT stands (the table of R171). -/
inductive Target where
  | notFound
  /-- It waits in its port queue. -/
  | waiting (r : Request)
  /-- Its READ job or start job is in progress, not yet marked. -/
  | inJob (r : Request)
  /-- It is an op record of the device, not ending. -/
  | record (d : Device)
  deriving DecidableEq, Repr

/-- The record is the one of the port with the tag, and not ending. -/
def OpRecord.isTarget (rec : OpRecord) (p : Port) (tag : Byte) : Bool :=
  rec.port == p && rec.tag == tag && !rec.ending

/-- The request of the job in progress, when it is of the port with the tag and its abort mark is none. -/
def State.jobTarget (s : State) (p : Port) (tag : Byte) : Option Request :=
  match s.job with
  | some { kind := .request r false, .. } => if r.port = p ∧ r.tag = tag then some r else Option.none
  | _ => Option.none

/-- The search for the target: tags are unique among a port's outstanding requests, so at most one of the three
places holds it (R171). -/
def State.findTarget (s : State) (p : Port) (tag : Byte) : Target :=
  match (s.queue p).find? fun r => r.tag == tag with
  | some r => .waiting r
  | Option.none =>
  match s.jobTarget p tag with
  | some r => .inJob r
  | Option.none =>
  match allDevices.find? fun d => (s.tracker d).stack.any fun rec => rec.isTarget p tag with
  | some d => .record d
  | Option.none => .notFound

/-- The job in progress with its abort mark set (R173, R174). -/
def Job.mark (j : Job) : Job :=
  match j.kind with
  | .request r _ => { j with kind := .request r true }
  | .tracker .. => j

/-- The target record is set ABORTED, with its abort mark (R175). -/
def OpRecord.abortIfTarget (p : Port) (tag : Byte) (rec : OpRecord) : OpRecord :=
  if rec.isTarget p tag then { rec with abortMark := true, endStatus := some .aborted } else rec

/-- The tracker of an aborted op record: the record is set ABORTED and the tracker enters RECOVERING with cause
ABORTED (R175). -/
def Tracker.abortRecord (t : Tracker) (p : Port) (tag : Byte) : Tracker :=
  { t with stack := t.stack.map (OpRecord.abortIfTarget p tag) }.recover .aborted

/-- What an ABORT does to its target before its own response is queued (R172 to R175). -/
def State.abortTarget (s : State) (p : Port) (tag : Byte) : Target → State
  | .notFound => s
  | .waiting r =>
    (s.setQueue p ((s.queue p).erase r)).answer p (plainResponse r.work.kind r.tag .aborted) r.window r.device
  | .inJob _ => s.setJob (s.job.map Job.mark)
  | .record d => s.setTracker d ((s.tracker d).abortRecord p tag)

/-- ABORT handed on: the authority check, then the target, then the ABORT's own response; trackers and notices
follow at the close (R171, R172). -/
def State.abortDo (s : State) (p : Port) (tag : Byte) (target : Port) (targetTag : Byte) : State :=
  if target ≠ p ∧ p ≠ s.manager then s.reply p .abort tag .notManager
  else match s.findTarget target targetTag with
    | .notFound => s.reply p .abort tag .notFound
    | found => ((s.abortTarget target targetTag found).respond p (plainResponse .abort tag .done)).close

/-- ABORT (R171 to R175). -/
def State.abortRequest (s : State) (p : Port) (tag : Byte) (target : Port) (targetTag : Byte) : State :=
  s.intake p tag .control fun s => s.abortDo p tag target targetTag

/-! ## WARM_RESET (R177) -/

/-- WARM_RESET handed on: refused with a response, or answered by nothing while the sequence begins (R177). -/
def State.warmResetDo (s : State) (p : Port) (tag : Byte) (epoch : Half) : State :=
  if p ≠ s.manager then s.reply p .warmReset tag .notManager
  else if epoch ≠ s.epoch then s.reply p .warmReset tag .staleEpoch
  else s.warmBegin

/-- WARM_RESET (R177, R178). -/
def State.warmResetRequest (s : State) (p : Port) (tag : Byte) (epoch : Half) : State :=
  s.intake p tag .control fun s => s.warmResetDo p tag epoch

/-! ## The commands -/

/-- WINDOW_WRITE. -/
def execWindowWrite (p : Port) (tag : Byte) (number : Word) (r : WindowRecord) (s : State) :
    Host.Outcome State Fault Refusal :=
  s.powered (s.windowWriteRequest p tag number r)

/-- WINDOW_READ. -/
def execWindowRead (p : Port) (tag : Byte) (number : Word) (s : State) : Host.Outcome State Fault Refusal :=
  s.powered (s.windowReadRequest p tag number)

/-- PROFILE_WRITE. -/
def execProfileWrite (p : Port) (tag : Byte) (number : Word) (r : ProfileRecord) (s : State) :
    Host.Outcome State Fault Refusal :=
  s.powered (s.profileWriteRequest p tag number r)

/-- PROFILE_READ. -/
def execProfileRead (p : Port) (tag : Byte) (number : Word) (s : State) : Host.Outcome State Fault Refusal :=
  s.powered (s.profileReadRequest p tag number)

/-- SWAP. -/
def execSwap (p : Port) (tag : Byte) (number : Word) (s : State) : Host.Outcome State Fault Refusal :=
  s.powered (s.swapRequest p tag number)

/-- FREEZE. -/
def execFreeze (p : Port) (tag : Byte) (s : State) : Host.Outcome State Fault Refusal :=
  s.powered (s.freezeRequest p tag)

/-- HANDOVER. -/
def execHandover (p : Port) (tag : Byte) (s : State) : Host.Outcome State Fault Refusal :=
  s.powered (s.handoverRequest p tag)

/-- STATUS_READ. -/
def execStatusRead (p : Port) (tag : Byte) (clear : Bool) (s : State) : Host.Outcome State Fault Refusal :=
  s.powered (s.statusReadRequest p tag clear)

/-- ABORT. -/
def execAbort (p : Port) (tag : Byte) (target : Port) (targetTag : Byte) (s : State) :
    Host.Outcome State Fault Refusal :=
  s.powered (s.abortRequest p tag target targetTag)

/-- WARM_RESET. -/
def execWarmReset (p : Port) (tag : Byte) (epoch : Half) (s : State) : Host.Outcome State Fault Refusal :=
  s.powered (s.warmResetRequest p tag epoch)

end Sys2Proof.Machine
end

