-- ==== Sys2Proof/Machine/Links.lean ====
section
/-! DEFINITION. The host links (08): the beginning of a frame, its bytes, and the work at its end. -/

namespace Sys2Proof.Machine

/-- The receipt's two bytes of the outbound stream, tag first (R150, R151). -/
def Receipt.bytes (r : Receipt) : List Byte := [r.tag, r.code.code]

/-- The frame that begins on a port: the outbound stream latched from the receipt register and the head message as
they stand (R151). -/
def State.newFrame (s : State) (p : Port) : Frame where
  held := []
  stream := (s.link p).receipt.bytes ++ ((s.out p).queue.head?.map Message.bytes).getD []
  latched := (s.out p).queue.head?.map Message.size

/-- FRAME_BEGIN: the host asserts the select of a link whose select is released; the byte count is set to 0 (R143,
R151). -/
def State.frameBegin (s : State) (p : Port) : State :=
  match (s.link p).select with
  | .released => 
    s.setLink p { s.link p with count := 0, select := .frame (s.newFrame p), dout := Option.none, doutBits := [] }
  | .ignored | .frame _ => s

/-- One inbound byte of a frame of which count bytes came before: held if within the first 266 (R143). -/
def Frame.take (f : Frame) (count : Nat) (b : Byte) : Frame :=
  { f with held := if count < Config.heldBytes then f.held ++ [b] else f.held }

/-- The byte count after one more byte: it stops at 267 (R143). -/
def countByte (count : Nat) : Nat := if count ≤ Config.heldBytes then count + 1 else count

/-- Byte n of the outbound stream, shifted out with inbound byte n: fill after the latched bytes (R151). -/
def Frame.outByte (f : Frame) (n : Nat) : Byte := f.stream.getD n Config.fillByte

/-- The bits that some clock periods past the last whole byte shift out: the leading bits of the next byte, most
significant first (R151). -/
def leadingBits (next : Byte) (clocks : Fin 8) : List Bool := (List.range clocks.val).map next.getMsbD

/-- INBOUND_BYTE: eight clock periods of a frame in progress complete a byte (R143). In a select period that is not a
frame nothing is counted or held, and what the driven data line carries is a free byte (assumption 24). -/
def State.inboundByte (s : State) (p : Port) (b : Byte) : State :=
  let l := s.link p
  match l.select with
  | .frame f =>
    s.setLink p { l with
      count := countByte l.count
      select := .frame (f.take l.count b)
      dout := some (f.outByte l.count) }
  | .ignored => (s.setLink p { l with dout := some (Config.unframedByte s.freeCount) }).countFree 1
  | .released => s

/-- A frame of count bytes carried its latched message whole: at least 2 plus the message's size whole bytes
(R152). -/
def Frame.delivers (f : Frame) (count : Nat) : Bool :=
  match f.latched with
  | some size => 2 + size ≤ count
  | Option.none => false

/-- Step 1 of a frame end: a message carried whole is removed (R152). -/
def State.removal (s : State) (p : Port) (f : Frame) : State :=
  if f.delivers (s.link p).count then s.setOut p (s.out p).removeHead else s

/-- The request of a valid frame is handed to intake (R113, R122). -/
def State.handRequest (s : State) (p : Port) (tag : Byte) : FrameRequest → State
  | .null => s.nullRequest p tag
  | .unknown => s.unknownRequest p tag
  | .read a n => s.readRequest p tag a n
  | .program a data => s.programRequest p tag a data
  | .erase a k => s.eraseRequest p tag a k
  | .windowWrite w r => s.windowWriteRequest p tag w r
  | .windowRead w => s.windowReadRequest p tag w
  | .profileWrite d r => s.profileWriteRequest p tag d r
  | .profileRead d => s.profileReadRequest p tag d
  | .swap w => s.swapRequest p tag w
  | .freeze => s.freezeRequest p tag
  | .handover => s.handoverRequest p tag
  | .statusRead c => s.statusReadRequest p tag c
  | .abort q t => s.abortRequest p tag q t
  | .warmReset e => s.warmResetRequest p tag e

/-- An invalid frame: receipt BAD_FRAME, and the bad-frame count rises (R147, R148). -/
def State.badFrame (s : State) (p : Port) (tag : Byte) : State :=
  (s.setLink p { s.link p with badFrames := bumpHalf (s.link p).badFrames }).writeReceipt p tag .badFrame

/-- The frame-end work in its order: removal, notices, intake, receipt (R153). The select is released with it, and the
clock periods past the last whole byte have shifted out the leading bits of the next stream byte (R151). -/
def State.frameEndWork (s : State) (p : Port) (f : Frame) (extraClocks : Fin 8) : State :=
  let l := s.link p
  let s₁ := s.setLink p { l with
    select := .released
    dout := Option.none
    doutBits := leadingBits (f.outByte l.count) extraClocks }
  let s₂ := (s₁.removal p f).moveNotices p
  (if f.valid l.count extraClocks then s₂.handRequest p (frameTag f.held) (frameRequest f.held)
    else s₂.badFrame p (frameTag f.held)).driveAttention

/-- FRAME_END: the host releases the select. A select period that is not a frame ends without frame-end work
(R143); the bits of a partial byte on the data line are a free byte's (assumption 24). -/
def State.frameEnd (s : State) (p : Port) (extraClocks : Fin 8) : State :=
  match (s.link p).select with
  | .released => s
  | .ignored =>
    (s.setLink p { s.link p with
      select := .released
      dout := Option.none
      doutBits := leadingBits (Config.unframedByte s.freeCount) extraClocks }).countFree
        (if extraClocks = 0 then 0 else 1)
  | .frame f => s.frameEndWork p f extraClocks

/-- FRAME_BEGIN. -/
def execFrameBegin (p : Port) (s : State) : Host.Outcome State Fault Refusal := s.powered (s.frameBegin p)

/-- FRAME_END. -/
def execFrameEnd (p : Port) (extraClocks : Fin 8) (s : State) : Host.Outcome State Fault Refusal :=
  s.powered (s.frameEnd p extraClocks)

/-- INBOUND_BYTE. -/
def execInboundByte (p : Port) (b : Byte) (s : State) : Host.Outcome State Fault Refusal :=
  s.powered (s.inboundByte p b)

end Sys2Proof.Machine
end

