-- ==== Sys2Proof/Machine/Time.lean ====
section
/-! DEFINITION. The time base (R193), busy times and timers (R55, R56), and the four expiries of a tracker: poll
timer, deadline, suspend settle and reset settle (R56, R60, R79, R64), with the quarantine drain (R66). -/

namespace Sys2Proof.Machine

/-! ## Ticks -/

/-- A timer after one tick: one µs less, and at 0 it has expired (assumption 10). -/
def tickTimer (timer : Option Nat) : Option Nat := timer.map (· - 1)

/-- A record after one tick: its busy time counts while it is RUNNING or SUSPENDING and not ending. The tick that would
bring it to the time limit makes the deadline due instead: the busy time reaches the limit at the deadline expiry, an
event of its own, so that a poll result taken before it ends the record below its limit (R55, R61, assumption 10). -/
def OpRecord.tick (rec : OpRecord) : OpRecord :=
  if rec.counting then
    if rec.busyTime + 1 < rec.limit then { rec with busyTime := rec.busyTime + 1 } else { rec with deadlineDue := true }
  else rec

/-- A tracker after one tick. -/
def Tracker.tick (t : Tracker) : Tracker :=
  { t with
    stack := t.stack.map OpRecord.tick
    pollTimer := tickTimer t.pollTimer
    suspendSettle := tickTimer t.suspendSettle
    resetSettle := tickTimer t.resetSettle }

/-- The 64th CLK period: the count returns to 0 and one tick is issued (R193). -/
def State.tick (s : State) : State := { s with timeBase := 0, trackers := s.trackers.map Tracker.tick }

/-- TIME_BASE_TICK: the CLK periods up to the 64th since the last tick (assumption 9). -/
def execTimeBaseTick (s : State) : Host.Outcome State Fault Refusal := s.powered s.tick

/-- CLK_PERIOD: the count of periods rises by 1; the 64th gives a tick (R193). -/
def execClkPeriod (s : State) : Host.Outcome State Fault Refusal :=
  s.powered (if s.timeBase.val + 1 = Config.clkPerTick then s.tick else { s with timeBase := s.timeBase + 1 })

/-! ## Expiries. One whose timer is disarmed or has not run down does not occur (assumption 2). -/

/-- POLL_TIMER_EXPIRY: the tracker wants a POLL, and the timer stays disarmed until that job completes (R56). -/
def execPollTimerExpiry (d : Device) (s : State) : Host.Outcome State Fault Refusal :=
  let t := s.tracker d
  s.powered (if t.pollTimer = some 0 then s.setTracker d { t with pollTimer := Option.none, wantPoll := true }
    else s)

/-- The deadline of a tracker's top record is due: the record is RUNNING or SUSPENDING, not ending, and the tick that
brings its busy time to its limit has come (R55, R60). -/
def Tracker.deadlineDue (t : Tracker) : Option (OpRecord × List OpRecord) :=
  match t.state, t.stack with
  | .running, top :: rest => if top.counting ∧ top.deadlineDue then some (top, rest) else Option.none
  | .suspending, top :: rest => if top.counting ∧ top.deadlineDue then some (top, rest) else Option.none
  | _, _ => Option.none

/-- DEADLINE_EXPIRY: the busy time reaches its limit, and the record ends TIMEOUT (R55, R60). -/
def execDeadlineExpiry (d : Device) (s : State) : Host.Outcome State Fault Refusal :=
  s.powered (match (s.tracker d).deadlineDue with
    | some (top, rest) =>
      (s.setTracker d ((s.tracker d).timeOut { top with busyTime := top.limit } rest)).reconsider
    | Option.none => s)

/-- The suspend settle timer of a SUSPENDING tracker has run down and its record is not ending (R79). -/
def Tracker.settleDue (t : Tracker) : Option (OpRecord × List OpRecord) :=
  match t.state, t.stack with
  | .suspending, top :: rest =>
    if ¬ top.ending ∧ t.suspendSettle = some 0 then some (top, rest) else Option.none
  | _, _ => Option.none

/-- SUSPEND_SETTLE_EXPIRY (R79). -/
def execSuspendSettleExpiry (d : Device) (s : State) : Host.Outcome State Fault Refusal :=
  s.powered (match (s.tracker d).settleDue with
    | some (top, rest) => (s.setTracker d ((s.tracker d).timeOut top rest)).reconsider
    | Option.none => s)

/-! ## The end of a recovery (R64, R66) -/

/-- The waiting requests of a list are answered DEVICE_FAULT, oldest first (R66). -/
def State.answerFaults (s : State) : List Request → State
  | [] => s
  | r :: rest =>
    (s.answer r.port (plainResponse r.work.kind r.tag .deviceFault) r.window r.device).answerFaults rest

/-- The quarantine drain of a device on one port: its waiting requests leave the queue and are answered; the
others keep their order (R66). -/
def State.drain (s : State) (d : Device) (p : Port) : State :=
  (s.setQueue p ((s.queue p).filter fun r => r.device != d)).answerFaults
    ((s.queue p).filter fun r => r.device == d)

/-- The tracker that leaves RECOVERING: no job wanted, the timers disarmed, the recovery cause none (R64, R66). Its
stack is empty since the RESET job's completion (R63). -/
def Tracker.settled (t : Tracker) (state : TrackerState) : Tracker :=
  { t with
    state := state
    wantPoll := false
    wantSuspend := false
    wantResume := false
    wantReset := false
    pollTimer := Option.none
    suspendSettle := Option.none
    resetSettle := Option.none
    cause := Option.none }

/-- Entry into FAULTED, in its order: the tracker, the drain of both queues, the DEVICE_FAULT notice on the manager
(R66). -/
def State.quarantine (s : State) (d : Device) : State :=
  ((((s.setTracker d ((s.tracker d).settled .faulted)).drain d .A).drain d .B).raise s.manager
    (.deviceFault (deviceBit d))).close

/-- RESET_SETTLE_EXPIRY: FAULTED after a recovery with cause TIMEOUT and three consecutive timeouts, IDLE otherwise
(R64). -/
def execResetSettleExpiry (d : Device) (s : State) : Host.Outcome State Fault Refusal :=
  let t := s.tracker d
  s.powered (
    if t.state = .recovering ∧ t.resetSettle = some 0 then
      if t.cause = some .timeout ∧ t.timeouts = 3 then s.quarantine d
      else (s.setTracker d (t.settled .idle)).reconsider
    else s)

end Sys2Proof.Machine
end

