-- ==== Sys2Proof/Machine/Dispatch.lean ====
section
/-! DEFINITION. The meaning of every command: one arm for each row of spec/opcode_table.json. -/

namespace Sys2Proof.Machine

/-- A command's effect on everything but the queue of waiting commands. -/
def exec (i : Instr) (s : State) : Host.Outcome State Fault Refusal :=
  match i with
  | .coldStart pinHeld selectA selectB => Sys2Proof.Machine.execColdStart pinHeld selectA selectB s
  | .coldStartEnd => Sys2Proof.Machine.execColdStartEnd s
  | .powerOff => Sys2Proof.Machine.execPowerOff s
  | .timeBaseTick => Sys2Proof.Machine.execTimeBaseTick s
  | .frameBegin port => Sys2Proof.Machine.execFrameBegin port s
  | .frameEnd port extraClocks => Sys2Proof.Machine.execFrameEnd port extraClocks s
  | .null port tag => Sys2Proof.Machine.execNull port tag s
  | .read port tag address length => Sys2Proof.Machine.execRead port tag address length s
  | .program port tag address data => Sys2Proof.Machine.execProgram port tag address data s
  | .erase port tag address sizeKiB => Sys2Proof.Machine.execErase port tag address sizeKiB s
  | .windowWrite port tag number record => Sys2Proof.Machine.execWindowWrite port tag number record s
  | .windowRead port tag number => Sys2Proof.Machine.execWindowRead port tag number s
  | .profileWrite port tag number record => Sys2Proof.Machine.execProfileWrite port tag number record s
  | .profileRead port tag number => Sys2Proof.Machine.execProfileRead port tag number s
  | .swap port tag number => Sys2Proof.Machine.execSwap port tag number s
  | .freeze port tag => Sys2Proof.Machine.execFreeze port tag s
  | .handover port tag => Sys2Proof.Machine.execHandover port tag s
  | .statusRead port tag clear => Sys2Proof.Machine.execStatusRead port tag clear s
  | .abort port tag target targetTag => Sys2Proof.Machine.execAbort port tag target targetTag s
  | .warmReset port tag epoch => Sys2Proof.Machine.execWarmReset port tag epoch s
  | .clearStep => Sys2Proof.Machine.execClearStep s
  | .resetSequenceEnd => Sys2Proof.Machine.execResetSequenceEnd s
  | .resetPinAssert => Sys2Proof.Machine.execResetPinAssert s
  | .resetPinRelease => Sys2Proof.Machine.execResetPinRelease s
  | .busGrant => Sys2Proof.Machine.execBusGrant s
  | .readJobComplete driven => Sys2Proof.Machine.execReadJobComplete driven s
  | .startJobComplete => Sys2Proof.Machine.execStartJobComplete s
  | .pollComplete status => Sys2Proof.Machine.execPollComplete status s
  | .suspendComplete => Sys2Proof.Machine.execSuspendComplete s
  | .resumeComplete => Sys2Proof.Machine.execResumeComplete s
  | .resetJobComplete => Sys2Proof.Machine.execResetJobComplete s
  | .pollTimerExpiry device => Sys2Proof.Machine.execPollTimerExpiry device s
  | .deadlineExpiry device => Sys2Proof.Machine.execDeadlineExpiry device s
  | .suspendSettleExpiry device => Sys2Proof.Machine.execSuspendSettleExpiry device s
  | .resetSettleExpiry device => Sys2Proof.Machine.execResetSettleExpiry device s
  | .inboundByte port byte => Sys2Proof.Machine.execInboundByte port byte s
  | .clkPeriod => Sys2Proof.Machine.execClkPeriod s

end Sys2Proof.Machine
end

