-- ==== Sys2Proof/WellFormed.lean ====
section
/-! DEFINITION. Which commands the spec's agents can send: the checks on operands that the types do not make. -/

namespace Sys2Proof

/-- A command is well formed when an agent of the spec can bring it about. A PROGRAM's data fit one frame
(R144, R145: 10 to 266 bytes, so at most 256 data bytes), and a READ job takes in at most 256 bytes (R43).
Every value of every other operand can arise. -/
def Instr.wellFormed : Instr → Bool
  | .program _ _ _ data => data.length ≤ 256
  | .readJobComplete driven => driven.length ≤ 256
  | .coldStart .. | .coldStartEnd | .powerOff | .timeBaseTick | .frameBegin _ | .frameEnd .. | .null ..
  | .read .. | .erase .. | .windowWrite .. | .windowRead .. | .profileWrite .. | .profileRead .. | .swap ..
  | .freeze .. | .handover .. | .statusRead .. | .abort .. | .warmReset .. | .clearStep | .resetSequenceEnd
  | .resetPinAssert | .resetPinRelease | .busGrant | .startJobComplete | .pollComplete _ | .suspendComplete
  | .resumeComplete | .resetJobComplete | .pollTimerExpiry _ | .deadlineExpiry _ | .suspendSettleExpiry _
  | .resetSettleExpiry _ | .inboundByte .. | .clkPeriod => true

end Sys2Proof
end

