-- ==== Sys2Proof/Safety.lean ====
section
/-! DEFINITION. The laws of the device as the spec states them, grouped so that each group is kept by every step, and
the words in which statements name states: a request that would be accepted, the state after an answer. -/

namespace Sys2Proof

/-- The events of power alone: COLD_START and POWER_OFF (R185). -/
def Instr.isPower : Instr → Bool
  | .coldStart .. | .powerOff => true
  | _ => false

end Sys2Proof

namespace Sys2Proof.Machine

/-! ## The ledger of unanswered requests (R4, R52, R104, R132) -/

/-- What an unanswered memory request counts toward, in whichever phase of R104 it is. -/
structure Owed where
  port : Port
  tag : Byte
  window : WindowNo
  device : Device
  deriving DecidableEq, Repr

/-- A waiting or in-flight request's entry. -/
def Request.owed (r : Request) : Owed := { port := r.port, tag := r.tag, window := r.window, device := r.device }

/-- An op record's entry, on the stack of a device. -/
def OpRecord.owed (d : Device) (rec : OpRecord) : Owed :=
  { port := rec.port, tag := rec.tag, window := rec.window, device := d }

/-- Every unanswered memory request: waiting (R125), in the job in progress (R102, R103), or an op record
(R104). -/
def State.owed (s : State) : List Owed :=
  (s.queue .A).map Request.owed ++ (s.queue .B).map Request.owed ++ s.flight.map Request.owed
    ++ allDevices.flatMap fun d => (s.tracker d).stack.map (OpRecord.owed d)

/-- A port's reservation count is the number of its unanswered requests (R132), between events. -/
def ReservationLaw (s : State) : Prop :=
  ∀ p : Port, (s.out p).reservations = (s.owed.filter fun o => o.port = p).length

/-- A window's use count is the number of unanswered requests translated through it (R4). -/
def UseCountLaw (s : State) : Prop :=
  ∀ w : WindowNo, (s.window w).useCount = (s.owed.filter fun o => o.window = w).length

/-- A device's reference count is the number of unanswered requests translated to it (R52). -/
def RefCountLaw (s : State) : Prop :=
  ∀ d : Device, (s.tracker d).refCount = (s.owed.filter fun o => o.device = d).length

/-- Every entry of a port queue is a request of that port (R125). -/
def QueuePortLaw (s : State) : Prop := ∀ p : Port, ∀ r ∈ s.queue p, r.port = p

/-- While a reset sequence or cold start is under way no block holds a discarded request (R186): queues and
stacks are empty, the outbound units hold nothing (R141), and no recovery has a cause (R69). -/
def DiscardLaw (s : State) : Prop :=
  s.part = .resetting →
    (∀ p : Port, s.queue p = [] ∧ (s.out p).queue = [] ∧ (s.out p).reservations = 0
      ∧ (s.out p).notices = .empty)
    ∧ ∀ d : Device, (s.tracker d).stack = [] ∧ (s.tracker d).cause = none

/-- Before cold start has ended, and without power, the part is RESETTING (assumption 5), no bus job is in progress
and every tracker has its cold values (R68, R185). -/
def ColdLaw (s : State) : Prop :=
  s.power ≠ .on → s.part = .resetting ∧ s.job = none ∧ ∀ d : Device, s.tracker d = Tracker.cold

/-- The ledger: the three counts count exactly the unanswered requests. -/
structure LedgerLaw (s : State) : Prop where
  reservations : ReservationLaw s
  useCounts : UseCountLaw s
  refCounts : RefCountLaw s
  ports : QueuePortLaw s
  discard : DiscardLaw s
  cold : ColdLaw s

/-! ## Intake: tags and port queues (R117, R125) -/

/-- A port queue never holds more than 4 waiting requests (R125). -/
def QueueCapacityLaw (s : State) : Prop := ∀ p : Port, (s.queue p).length ≤ Config.queueCapacity

/-- No two outstanding requests of one port carry the same tag (R117). -/
def TagLaw (s : State) : Prop := ∀ p : Port, (s.outstandingTags p).Nodup

/-! ## Outbound units and links (R132, R138, R140, R143, R152) -/

/-- Messages and reservations of a port never exceed 8 (R132). -/
def CapacityLaw (s : State) : Prop := ∀ p : Port, (s.out p).sum ≤ Config.outboundCapacity

/-- Between events a port's pending-notice set is non-empty only while its sum is 8 (R138). -/
def NoticeLaw (s : State) : Prop :=
  ∀ p : Port, (s.out p).notices = .empty ∨ Config.outboundCapacity ≤ (s.out p).sum

/-- The attention line follows the queue and the part state (R140). -/
def AttentionLaw (s : State) : Prop :=
  ∀ p : Port, (s.out p).attention = (!(s.out p).queue.isEmpty && s.part == .operating)

/-- A link's byte count stops at 267, and a frame in progress holds the first 266 of the bytes counted. -/
def Link.tidy (l : Link) : Prop :=
  l.count ≤ Config.heldBytes + 1 ∧ ∀ f, l.select = .frame f → f.held.length = min l.count Config.heldBytes

/-- The byte counts and the frames in progress of both links are tidy (R143). -/
def FrameLaw (s : State) : Prop := ∀ p : Port, (s.link p).tidy

/-- A latched message is the head of its port's queue until the frame ends (R151, R152, R155). -/
def LatchLaw (s : State) : Prop :=
  ∀ p : Port, ∀ f n, (s.link p).select = .frame f → f.latched = some n →
    (s.out p).queue.head?.map Message.size = some n

/-- The laws of the outbound units and the links. -/
structure OutboundLaws (s : State) : Prop where
  capacity : CapacityLaw s
  notices : NoticeLaw s
  attention : AttentionLaw s
  frames : FrameLaw s
  latched : LatchLaw s

/-! ## Windows (R1 to R5, R163) -/

/-- No two ACTIVE windows that share an owner port have overlapping logical ranges (R2). -/
def WindowLaw (s : State) : Prop :=
  ∀ v w : WindowNo, v ≠ w → (s.window v).collides (s.window w) = false

/-- An EMPTY window has the values of R1; an ACTIVE one has those of the table of 01 section 1.1: an owner, no rights
for a port that is no owner, active bank 0 where it has no bank 1, a size of at least 4 KiB, size and bases multiples
of 4 KiB, and logical and physical ranges that do not pass 2^32 (R1, R2, R3, R10, R21). -/
def Window.wellFormed (w : Window) : Prop :=
  if w.active then
    (w.owners.a = true ∨ w.owners.b = true)
    ∧ (∀ p : Port, w.owners.get p = false → w.rights.get p = .empty)
    ∧ (w.bank1 = none → w.activeBank = .bank0 ∧ w.swapPending = false)
    ∧ Config.windowUnit ≤ w.size ∧ w.size % Config.windowUnit = 0
    ∧ w.logicalBase.toNat % Config.windowUnit = 0 ∧ w.logicalBase.toNat + w.size ≤ Config.addressSpace
    ∧ w.bank0.toNat % Config.windowUnit = 0 ∧ w.bank0.toNat + w.size ≤ Config.addressSpace
    ∧ (∀ b ∈ w.bank1, b.toNat % Config.windowUnit = 0 ∧ b.toNat + w.size ≤ Config.addressSpace)
  else w = .empty

/-- Every window is well formed. -/
def WindowFormLaw (s : State) : Prop := ∀ w : WindowNo, (s.window w).wellFormed

/-- A window has swap pending only while its use count is above 0 (R5, R26). -/
def SwapLaw (s : State) : Prop := ∀ w : WindowNo, (s.window w).swapPending → 0 < (s.window w).useCount

/-- While frozen, only swap-open windows have swap pending (R162, R163). -/
def FreezeLaw (s : State) : Prop :=
  s.frozen → ∀ w : WindowNo, (s.window w).swapPending → (s.window w).swapOpen

/-- The laws of the window table. -/
structure WindowLaws (s : State) : Prop where
  disjoint : WindowLaw s
  form : WindowFormLaw s
  swaps : SwapLaw s
  freeze : FreezeLaw s

/-- The fields of a window that WINDOW_WRITE writes, apart from the active bank. -/
def sameConfig (v w : Window) : Prop :=
  v.active = w.active ∧ v.owners = w.owners ∧ v.logicalBase = w.logicalBase ∧ v.size = w.size
    ∧ v.device = w.device ∧ v.bank0 = w.bank0 ∧ v.bank1 = w.bank1 ∧ v.rights = w.rights
    ∧ v.swapOpen = w.swapOpen ∧ v.report = w.report

/-! ## Trackers and stacks (R48, R53, R72, R83, R89, R90) -/

/-- The upper record lies outside the range of the lower one (R83). -/
def liesOutside (upper lower : OpRecord) : Prop :=
  overlaps upper.start upper.length lower.start lower.length = false

/-- The shapes of the operation stack, each with its tracker state (R90). -/
def Tracker.shape (t : Tracker) : Prop :=
  match t.state with
  | .offline | .idle | .faulted => t.stack = []
  | .running =>
    (∃ rec, t.stack = [rec] ∧ rec.state = .running ∧ rec.endStatus = none)
    ∨ (∃ upper lower, t.stack = [upper, lower]
        ∧ upper.kind = .program ∧ upper.state = .running ∧ upper.endStatus = none ∧ upper.suspendCount = 0
        ∧ lower.kind = .erase ∧ lower.state = .suspended ∧ lower.endStatus = none ∧ liesOutside upper lower)
  | .suspending => ∃ rec, t.stack = [rec] ∧ rec.state = .suspending ∧ rec.endStatus = none
  | .suspended => ∃ rec, t.stack = [rec] ∧ rec.state = .suspended ∧ rec.endStatus = none
  | .recovering =>
    t.stack.length ≤ 2 ∧ (∀ rec ∈ t.stack, rec.endStatus ≠ none)
    ∧ ∀ upper lower, t.stack = [upper, lower] →
        upper.kind = .program ∧ lower.kind = .erase ∧ lower.state = .suspended ∧ liesOutside upper lower

/-- Every stack has one of the shapes of R90 (R83). -/
def StackLaw (s : State) : Prop := ∀ d : Device, (s.tracker d).shape

/-- The wants of a tracker and its timers stand only in the states of the table of 03 section 3.1. -/
structure Tracker.tidy (t : Tracker) : Prop where
  poll : t.wantPoll → t.state = .running ∨ t.state = .suspending
  suspend : t.wantSuspend → t.state = .running ∧ t.stack.length = 1
  resume : t.wantResume → t.state = .suspended ∧ t.stack.length = 1
  reset : t.wantReset → t.state = .recovering ∧ t.resetSettle = none
  pollTimer : t.pollTimer ≠ none → (t.state = .running ∨ t.state = .suspending) ∧ ¬ t.wantPoll
  suspendSettle : t.suspendSettle ≠ none → t.state = .suspending
  resetSettle : t.resetSettle ≠ none → t.state = .recovering ∧ t.stack = []
  cause : t.cause ≠ none → t.state = .recovering

/-- Wants and timers are tidy in every tracker. -/
def TidyLaw (s : State) : Prop := ∀ d : Device, (s.tracker d).tidy

/-- A tracker is OFFLINE exactly while its profile is absent (R48). -/
def OfflineLaw (s : State) : Prop :=
  ∀ d : Device, (s.tracker d).state = .offline ↔ (s.profile d).present = false

/-- No op record's suspend count exceeds its device's suspend limit; it is below the limit while the record is
SUSPENDING or its tracker wants a SUSPEND (R89). -/
def SuspendLimitLaw (s : State) : Prop :=
  ∀ d : Device, ∀ rec ∈ (s.tracker d).stack,
    rec.suspendCount ≤ (s.profile d).suspendLimit
    ∧ (rec.state = .suspending ∨ (s.tracker d).wantSuspend →
        (s.tracker d).state ≠ .recovering → rec.suspendCount < (s.profile d).suspendLimit)

/-- The consecutive-timeout count lies in 0 to 3; at 3 the tracker is in a recovery with cause TIMEOUT or FAULTED;
FAULTED holds only with the count at 3 (R53, R66). -/
def TimeoutLaw (s : State) : Prop :=
  ∀ d : Device, (s.tracker d).timeouts ≤ 3
    ∧ ((s.tracker d).timeouts = 3 →
        ((s.tracker d).state = .recovering ∧ (s.tracker d).cause = some .timeout) ∨ (s.tracker d).state = .faulted)
    ∧ ((s.tracker d).state = .faulted → (s.tracker d).timeouts = 3)

/-- A record's busy time is at most its limit, and below it until the record ends, so a record ends DONE below its
limit; a deadline is due only for a record that is neither ending nor SUSPENDED (R55). A limit of 0, which no valid
profile has (R33), is left out. -/
def DeadlineLaw (s : State) : Prop :=
  ∀ d : Device, ∀ rec ∈ (s.tracker d).stack,
    rec.busyTime ≤ rec.limit
    ∧ (rec.endStatus = none → 0 < rec.limit → rec.busyTime < rec.limit)
    ∧ (rec.deadlineDue → rec.endStatus = none ∧ rec.state ≠ .suspended)

/-- While a tracker is FAULTED no request for its device waits in either port queue, and its reference count is 0
(R66, R190). -/
def QuarantineLaw (s : State) : Prop :=
  ∀ d : Device, (s.tracker d).state = .faulted →
    (s.tracker d).refCount = 0 ∧ ∀ p : Port, ∀ r ∈ s.queue p, r.device ≠ d

/-- What the tracker of its device is like while a job is in progress (R47, R54, R59, R99, R100): a request job meets
no op record of its range, and finds its tracker IDLE, or SUSPENDED with one record, or taken from there into recovery;
a POLL job has its timer disarmed; a SUSPEND job holds a RUNNING record below its limit, a RESUME job a SUSPENDED
tracker, unless recovery has begun and its RESET still waits; a RESET job a RECOVERING tracker that, outside a reset
sequence, wants no further RESET. Within a reset sequence what a request, SUSPEND or RESUME job finds is open. -/
def JobKind.meets (s : State) : JobKind → Prop
  | .request r _ => s.part = .operating →
    (∀ rec ∈ (s.tracker r.device).stack, rec.overlapsRequest r = false)
    ∧ ((s.tracker r.device).state = .idle
      ∨ ((s.tracker r.device).state = .suspended
          ∨ (s.tracker r.device).state = .recovering ∧ (s.tracker r.device).wantReset = true)
        ∧ ∃ rec, (s.tracker r.device).stack = [rec] ∧ rec.state = .suspended
          ∧ (r.work = .read ∨ rec.kind = .erase ∧ ∃ data, r.work = .program data))
  | .tracker .poll d => (s.tracker d).wantPoll = false ∧ (s.tracker d).pollTimer = none
  | .tracker .suspend d => s.part = .operating →
    (s.tracker d).state = .recovering ∧ (s.tracker d).wantReset = true
    ∨ (s.tracker d).state = .running
      ∧ ∃ rec, (s.tracker d).stack = [rec] ∧ rec.suspendCount < (s.profile d).suspendLimit
  | .tracker .resume d => s.part = .operating →
    (s.tracker d).state = .recovering ∧ (s.tracker d).wantReset = true ∨ (s.tracker d).state = .suspended
  | .tracker .reset d => (s.tracker d).state = .recovering ∧ (s.tracker d).resetSettle = none
    ∧ (s.part = .operating → (s.tracker d).wantReset = false)

/-- The job in progress meets its tracker as it must (R100). -/
def JobLaw (s : State) : Prop := ∀ j, s.job = some j → j.kind.meets s

/-- While the reset pin is asserted after cold start, the part is RESETTING with its clear step not taken, no job is
in progress, and every tracker is OFFLINE, or RECOVERING with no RESET wanted and no settle timer running (R183). -/
def PinLaw (s : State) : Prop :=
  s.power = .on → s.resetPin = true →
    s.part = .resetting ∧ s.clearStep = false ∧ s.job = none
    ∧ ∀ d : Device, ((s.tracker d).state = .offline ∨ (s.tracker d).state = .recovering)
      ∧ (s.tracker d).wantReset = false ∧ (s.tracker d).resetSettle = none

/-- The laws of the trackers, their stacks and the job in progress. -/
structure TrackerLaws (s : State) : Prop where
  ledger : LedgerLaw s
  shapes : StackLaw s
  wants : TidyLaw s
  offline : OfflineLaw s
  suspendLimit : SuspendLimitLaw s
  timeouts : TimeoutLaw s
  deadlines : DeadlineLaw s
  quarantine : QuarantineLaw s
  job : JobLaw s
  pin : PinLaw s

/-! ## Words for the statements -/

/-- The request is a memory request (R112). -/
def FrameRequest.isMemory : FrameRequest → Bool
  | .read .. | .program .. | .erase .. => true
  | _ => false

/-- The memory request of a command: port, tag, logical address and what is asked for. -/
def memoryAsk : Instr → Option (Port × Byte × Word × Ask)
  | .read p t a n => some (p, t, a, .read n.toNat)
  | .program p t a data => some (p, t, a, .program data)
  | .erase p t a k => some (p, t, a, .erase k.toNat)
  | _ => none

/-- Commands taken one after another, as steps take them from the queue. -/
def runAll : List Instr → State → Host.Outcome State Fault Refusal
  | [], s => .next s
  | c :: rest, s =>
    match exec c s with
    | .next t => runAll rest t
    | .fault f => .fault f
    | .refused r => .refused r

/-- A request of the port with the tag passes the checks of intake that look at part state, tag and outbound
capacity (R113): with them a control request is accepted, and a memory request whose port queue has room. -/
structure State.Accepts (s : State) (p : Port) (tag : Byte) : Prop where
  on : s.power = .on
  operating : s.part = .operating
  free : tag ∉ s.outstandingTags p
  room : (s.out p).sum < Config.outboundCapacity

/-- The state with a receipt in the register of a port's link (R149). -/
def State.receipted (s : State) (p : Port) (tag : Byte) (code : ReceiptCode) : State :=
  { s with links := s.links.set p { s.link p with receipt := { tag := tag, code := code } } }

/-- The state after a request of the port was accepted and answered in the same event (R122, R124, R132): the response
at the tail of the port's queue, attention asserted, receipt ACCEPTED; the reservation taken is given back. -/
def State.answered (s : State) (p : Port) (tag : Byte) (m : Message) : State :=
  { s.receipted p tag .accepted with
    outbound := s.outbound.set p { s.out p with queue := (s.out p).queue ++ [m], attention := true } }

/-- The state after a request of the port was accepted and holds its reservation (R122): receipt ACCEPTED. -/
def State.reserved (s : State) (p : Port) (tag : Byte) : State :=
  { s.receipted p tag .accepted with
    outbound := s.outbound.set p { s.out p with reservations := (s.out p).reservations + 1 } }

/-- The state with a translated request at the tail of its port queue and its counts raised (R17). -/
def State.placed (s : State) (r : Request) : State :=
  { s with
    queues := s.queues.set r.port (s.queue r.port ++ [r])
    windows := s.windows.set r.window { s.window r.window with useCount := (s.window r.window).useCount + 1 }
    trackers := s.trackers.set r.device
      { s.tracker r.device with refCount := (s.tracker r.device).refCount + 1 } }

/-- The state that the end of a frame of whole bytes hands to intake (R153, steps 1 and 2): the select released, a message carried whole
removed from its queue (R152), pending notices moved into the free room (R138). -/
def State.frameClosed (s : State) (p : Port) (f : Frame) : State :=
  { s with
    links := s.links.set p { s.link p with select := .released, dout := none, doutBits := [] }
    outbound := s.outbound.set p
      (if f.latched.any (fun size => 2 + size ≤ (s.link p).count) then
        { s.out p with queue := (s.out p).queue.tail }
      else s.out p).moveNotices }

/-- Window w is the one that covers a logical address for a port (R9). -/
structure State.Covers (s : State) (p : Port) (a : Nat) (w : WindowNo) : Prop where
  active : (s.window w).active = true
  owner : (s.window w).owners.get p = true
  lower : (s.window w).logicalBase.toNat ≤ a
  upper : a < (s.window w).logicalBase.toNat + (s.window w).size

/-- The physical start of a range whose first byte is at logical address a of window w (R14). -/
def State.physicalStart (s : State) (a : Nat) (w : WindowNo) : Nat :=
  (match (s.window w).activeBank, (s.window w).bank1 with
    | .bank1, some base => base.toNat
    | .bank1, none => 0
    | .bank0, _ => (s.window w).bank0.toNat) + (a - (s.window w).logicalBase.toNat)

/-- The right of a port in a window that an ask needs (R11). -/
def State.right (s : State) (p : Port) (w : WindowNo) : Ask → Bool
  | .read _ => ((s.window w).rights.get p).read
  | .program _ => ((s.window w).rights.get p).program
  | .erase _ => ((s.window w).rights.get p).erase

/-- An ask passes the length check and steps 1 and 2 of translation, through window w (R8 to R10). -/
structure State.InRange (s : State) (p : Port) (a : Nat) (ask : Ask) (w : WindowNo) : Prop where
  length : match ask with
    | .read n => 1 ≤ n ∧ n ≤ 256
    | .program data => 1 ≤ data.length ∧ data.length ≤ 256
    | .erase _ => True
  covers : s.Covers p a w
  last : a + ask.count ≤ (s.window w).logicalBase.toNat + (s.window w).size

/-- An ask passes the length check and steps 1 to 6 of translation, through window w (R8 to R14). -/
structure State.Reaches (s : State) (p : Port) (a : Nat) (ask : Ask) (w : WindowNo) : Prop where
  range : s.InRange p a ask w
  right : s.right p w ask = true
  noSwap : (s.window w).swapPending = false
  present : (s.tracker (s.window w).device).state ≠ .offline
  inService : (s.tracker (s.window w).device).state ≠ .faulted
  capacity : s.physicalStart a w + ask.count ≤ 2 ^ (s.profile (s.window w).device).capacityLog

/-- The request that translation through window w makes of an ask (R17). -/
def State.translation (s : State) (p : Port) (tag : Byte) (a : Nat) (ask : Ask) (w : WindowNo) (work : Work) :
    Request where
  port := p
  tag := tag
  work := work
  window := w
  device := (s.window w).device
  start := s.physicalStart a w
  count := ask.count

end Sys2Proof.Machine
end

