-- ==== Sys2Proof/Certificates/Slice0/Obligations.lean ====
section
/-! DEFINITION. The statements about the part, for the provers: the queue of commands, links and frames, intake,
translation, the control requests, the reset sequences, the bus and its jobs, the trackers, and the laws that every
step keeps. -/

open Sys2Proof Sys2Proof.Machine

/-! ## The queue of commands -/

/-- step takes the command at the front of the queue and runs exec on it with the queue's rest; on an empty queue the
block idles (the second clause is the model's choice, assumption 1). -/
def Obligations.StepTakesFrontCommand : Prop :=
  (∀ (c : Instr) (rest : List Instr) (s : State), s.pending = c :: rest →
    step s = exec c { s with pending := rest })
  ∧ ∀ s : State, s.pending = [] → step s = .next s

/-- Every command, in every state, ends in a next state, and leaves the queue of waiting commands alone. -/
def Obligations.CommandsAnswerAndKeepQueue : Prop :=
  ∀ (c : Instr) (s : State), ∃ t, exec c s = .next t ∧ t.pending = s.pending

/-! ## Cold start and power (R185) -/

/-- COLD_START brings every block to its cold value, whatever came before, with the selects and the pin as they stand
at power-on; POWER_OFF keeps nothing of the part. The part state during cold start is assumption 5, what stands while
power is off assumption 4.
The event that ends cold start, COLD_START_END or the release of a pin held at power-on: OPERATING, RESET_DONE
with epoch 0 alone in each outbound queue, attention asserted, receipts, bad-frame counts and byte counts cleared (R156);
a select asserted then is no frame (assumption 7). Cold start from any state ends in State.reset (assumption 3). -/
def Obligations.ColdStart : Prop :=
  ((∀ (pin a b : Bool) (s : State), ∃ t, exec (.coldStart pin a b) s = .next t
    ∧ t.power = .coldStart ∧ t.resetPin = pin ∧ t.part = .resetting ∧ t.clearStep = false
    ∧ t.manager = .A ∧ t.frozen = false ∧ t.epoch = 0 ∧ t.lastGranted = .B ∧ t.job = none ∧ t.timeBase = 0
    ∧ (∀ w, t.window w = Window.empty) ∧ (∀ d, t.profile d = Profile.absent)
    ∧ (∀ d, t.tracker d = Tracker.cold)
    ∧ (∀ p, t.queue p = [] ∧ t.out p = Outbound.empty ∧ t.denials.get p = 0
      ∧ (t.link p).receipt = { tag := 0, code := .none } ∧ (t.link p).badFrames = 0 ∧ (t.link p).count = 0
      ∧ (t.link p).dout = none ∧ (t.link p).doutBits = [])
    ∧ (t.link .A).select = (if a then .ignored else .released)
    ∧ (t.link .B).select = (if b then .ignored else .released))
  ∧ ∀ s s' : State, s.pending = s'.pending → s.freeCount = s'.freeCount →
    exec .powerOff s = exec .powerOff s' ∧ ∃ t, exec .powerOff s = .next t ∧ t.power = .off ∧ t.job = none)
  ∧ (∀ s : State, s.power = .coldStart → (∀ p, s.out p = Outbound.empty) →
    ∃ t, exec .coldStartEnd s = .next t
      ∧ (s.resetPin = true → exec .resetPinRelease s = .next t)
      ∧ t = { s with
              power := .on
              resetPin := false
              part := .operating
              outbound := t.outbound
              links := t.links }
      ∧ ∀ p, t.out p = { queue := [.notice (.resetDone 0)], reservations := 0, notices := .empty, attention := true }
        ∧ (t.link p).receipt = { tag := 0, code := .none } ∧ (t.link p).badFrames = 0 ∧ (t.link p).count = 0
        ∧ (t.link p).dout = none ∧ (t.link p).doutBits = []
        ∧ ((s.link p).select = .released → (t.link p).select = .released)
        ∧ ((s.link p).select ≠ .released → (t.link p).select = .ignored))
  ∧ ∀ s : State, runAll [.coldStart false false false, .coldStartEnd] s
      = .next { State.reset with pending := s.pending, freeCount := s.freeCount }

/-! ## Frames and messages (08, 12) -/

/-- The frame of every well-formed request is valid, and its bytes decode to the port's tag and the request (R144 to
R146; 12 sections 12.1 and 12.4). A command has a frame exactly when it is a request. -/
def Obligations.RequestFramesDecode : Prop :=
  (∀ (i : Instr) (p : Port) (tag : Byte) (q : FrameRequest) (bs : List Byte),
    i.wellFormed = true → handed i = some (p, tag, q) → requestFrame i = some bs →
      frameBytesValid bs = true ∧ frameTag bs = tag ∧ frameRequest bs = q)
  ∧ ∀ i : Instr, (requestFrame i).isSome = (handed i).isSome

/-- A valid frame in which any one byte is changed is not valid: the check finds it (R144, R146). -/
def Obligations.CheckFindsOneWrongByte : Prop :=
  ∀ (bs : List Byte) (i : Nat) (b : Byte), frameBytesValid bs = true → i < bs.length → bs[i]? ≠ some b →
    frameBytesValid (bs.set i b) = false

/-- The bytes of a message: a response's kind, tag, status, data length and data, a notice's code, kind and
accumulator, each closed by its check, over which the check register runs to 0; the sizes of R151 and R191. -/
def Obligations.MessageBytesAndSizes : Prop :=
  (∀ (k : RequestKind) (t : Byte) (st : Status) (d : ResponseData),
    let n := d.toBytes.length
    let x := [k.code, t, st.code, BitVec.ofNat 8 (n / 256), BitVec.ofNat 8 n] ++ d.toBytes
    (Message.response k t st d).bytes = x ++ [(crc x).extractLsb' 8 8, (crc x).extractLsb' 0 8]
    ∧ (Message.response k t st d).bytes.length = 7 + n)
  ∧ (∀ n : Notice,
    let x := [0x80, 0x00, n.code, 0x00, 0x02, n.accumulator.extractLsb' 8 8, n.accumulator.extractLsb' 0 8]
    (Message.notice n).bytes = x ++ [(crc x).extractLsb' 8 8, (crc x).extractLsb' 0 8]
    ∧ (Message.notice n).bytes.length = 9)
  ∧ (∀ m : Message, m.bytes.length = m.size ∧ crc m.bytes = 0)
  ∧ ∀ (t : Byte) (w : WindowRecord) (f : ProfileRecord) (r : StatusRecord),
    (Message.response .windowRead t .done (.window w)).bytes.length = 31
    ∧ (Message.response .profileRead t .done (.profile f)).bytes.length = 47
    ∧ (Message.response .statusRead t .done (.status r)).bytes.length = 46

/-- FRAME_BEGIN: byte count 0, and the outbound stream latched from the receipt register and the head message as they
stand (R143, R151).
INBOUND_BYTE, once and any number of times: the first 266 bytes are held, the count stops at 267, and the stream
byte of the same place is shifted out, FFh after the latched bytes (R143, R151). In a select period that is not a frame
it counts and holds nothing, and a free byte is shifted out (assumption 24). -/
def Obligations.FramesBeginAndCollect : Prop :=
  (∀ (p : Port) (s : State), s.power ≠ .off → (s.link p).select = .released →
    exec (.frameBegin p) s = .next { s with links := s.links.set p { s.link p with
      count := 0
      dout := none
      doutBits := []
      select := .frame
        { held := []
          stream := [(s.link p).receipt.tag, (s.link p).receipt.code.code]
            ++ (match (s.out p).queue with | [] => [] | m :: _ => m.bytes)
          latched := match (s.out p).queue with | [] => none | m :: _ => some m.size } } })
  ∧ (∀ (p : Port) (s : State) (f : Frame), s.power ≠ .off → (s.link p).select = .frame f → (s.link p).tidy →
    let n := (s.link p).count
    (∀ b : Byte, exec (.inboundByte p b) s = .next { s with links := s.links.set p { s.link p with
      count := min (n + 1) 267
      select := .frame { f with held := (f.held ++ [b]).take 266 }
      dout := some (f.stream.getD n 0xFF) } })
    ∧ ∀ bs : List Byte, runAll (bs.map (.inboundByte p)) s = .next { s with links := s.links.set p { s.link p with
      count := min (n + bs.length) 267
      select := .frame { f with held := (f.held ++ bs).take 266 }
      dout := if bs = [] then (s.link p).dout
        else some (f.stream.getD (min (n + bs.length - 1) 267) 0xFF) } })
  ∧ ∀ (p : Port) (s : State) (b : Byte), s.power ≠ .off → (s.link p).select = .ignored →
    exec (.inboundByte p b) s = .next { s with
      freeCount := s.freeCount + 1
      links := s.links.set p { s.link p with dout := some (Config.unframedByte s.freeCount) } }

/-- FRAME_END of an invalid frame: removal, notices, receipt BAD_FRAME, and the bad-frame count one higher, or still
65535; the request is not decoded and nothing else changes (R147, R148, R152, R153). The bits of a partial byte carried
the leading bits of the next stream byte (R151). A select period that is no frame ends with no work at all (R143), its
partial byte carrying bits of a free byte (assumption 24). -/
def Obligations.InvalidFrameEnds : Prop :=
  (∀ (p : Port) (x : Fin 8) (s : State) (f : Frame), s.power ≠ .off → (s.link p).select = .frame f →
    (x ≠ 0 ∨ 266 < (s.link p).count ∨ frameBytesValid f.held = false) →
      exec (.frameEnd p x) s = .next (State.driveAttention { s.frameClosed p f with
        links := s.links.set p
          { receipt := { tag := f.held.getD 1 0, code := .badFrame }
            badFrames := if (s.link p).badFrames.toNat = 65535 then (s.link p).badFrames
              else (s.link p).badFrames + 1
            count := (s.link p).count
            select := .released
            dout := none
            doutBits := (List.range x.val).map (f.stream.getD (s.link p).count 0xFF).getMsbD } }))
  ∧ ∀ (p : Port) (x : Fin 8) (s : State), s.power ≠ .off → (s.link p).select = .ignored →
    exec (.frameEnd p x) s = .next { s with
      freeCount := s.freeCount + (if x = 0 then 0 else 1)
      links := s.links.set p { s.link p with
        select := .released
        dout := none
        doutBits := (List.range x.val).map (Config.unframedByte s.freeCount).getMsbD } }

/-- FRAME_END of a valid frame whose kind byte names no kind, in OPERATING: receipt UNKNOWN_KIND with the frame's tag,
whatever tags are outstanding and whatever address, length and payload the frame has; no reservation, no response,
no bad frame counted (R116). Within a reset sequence the receipt is RESETTING (R114). -/
def Obligations.UnknownKindFrameEnds : Prop :=
  ∀ (p : Port) (s : State) (f : Frame), s.power ≠ .off → (s.link p).select = .frame f →
    (s.link p).count ≤ 266 → frameBytesValid f.held = true → (∀ k : RequestKind, k.code ≠ f.held.getD 0 0) →
      (s.part = .operating → exec (.frameEnd p 0) s
        = .next ((s.frameClosed p f).receipted p (f.held.getD 1 0) .unknownKind).driveAttention)
      ∧ (s.part = .resetting → exec (.frameEnd p 0) s
        = .next ((s.frameClosed p f).receipted p (f.held.getD 1 0) .resetting).driveAttention)

/-- FRAME_END of a valid frame runs the request that the frame carries, on the state that removal and notices leave
(R113, R153). -/
def Obligations.FrameEndRunsItsRequest : Prop :=
  ∀ (i : Instr) (p : Port) (s : State) (f : Frame), s.power ≠ .off → (s.link p).select = .frame f →
    (s.link p).count ≤ 266 → frameBytesValid f.held = true →
    handed i = some (p, frameTag f.held, frameRequest f.held) →
      exec (.frameEnd p 0) s = exec i (s.frameClosed p f).driveAttention

/-- The whole way of a request over its link: the frame begins, every byte of the request's frame is taken in, and the
frame ends, and what stands then is what the request's own command gives, on a link with its select released whose
port has no message and no notice to move; the byte count is that of the frame. -/
def Obligations.WholeFrameIsItsRequest : Prop :=
  ∀ (i : Instr) (p : Port) (tag : Byte) (q : FrameRequest) (bs : List Byte) (s : State),
    i.wellFormed = true → handed i = some (p, tag, q) → requestFrame i = some bs →
    s.power ≠ .off → (s.link p).select = .released → (s.link p).dout = none → (s.link p).doutBits = [] →
    (s.out p).queue = [] → (s.out p).notices = .empty → AttentionLaw s →
      runAll ([.frameBegin p] ++ bs.map (.inboundByte p) ++ [.frameEnd p 0]) s
        = exec i { s with links := s.links.set p { s.link p with count := bs.length } }

/-! ## Intake (06) -/

/-- The checks of intake in their order, and what a refused frame leaves: a receipt and nothing else (R113 to R116,
R119 to R121). A NULL is done with its receipt IDLE_FRAME (R115). The outstanding tags of a port are those of its
requests waiting in its queue, in the job in progress or on a stack, and of the responses in its outbound queue
(R117). -/
def Obligations.RefusedAtIntakeLeavesReceipt : Prop :=
  (∀ (s : State) (p : Port) (tag : Byte), s.part = .operating → (tag ∈ s.outstandingTags p ↔
    (∃ r ∈ s.queue p, r.tag = tag)
    ∨ (∃ r m sel, s.job = some { kind := .request r m, selects := sel } ∧ r.port = p ∧ r.tag = tag)
    ∨ (∃ d, ∃ rec ∈ (s.tracker d).stack, rec.port = p ∧ rec.tag = tag)
    ∨ ∃ k st data, Message.response k tag st data ∈ (s.out p).queue))
  ∧ ∀ (i : Instr) (p : Port) (tag : Byte) (q : FrameRequest) (s : State),
    handed i = some (p, tag, q) → s.power ≠ .off →
    (s.part = .resetting → exec i s = .next (s.receipted p tag .resetting))
    ∧ (s.part = .operating → q = .null → exec i s = .next (s.receipted p tag .idleFrame))
    ∧ (s.part = .operating → q ≠ .null → tag ∈ s.outstandingTags p →
        exec i s = .next (s.receipted p tag .tagBusy))
    ∧ (s.part = .operating → q.isMemory = true → tag ∉ s.outstandingTags p → (s.queue p).length = 4 →
        exec i s = .next (s.receipted p tag .queueFull))
    ∧ (s.part = .operating → q ≠ .null → tag ∉ s.outstandingTags p →
        (q.isMemory = true → (s.queue p).length ≠ 4) → (s.out p).sum = 8 →
        exec i s = .next (s.receipted p tag .noSlot))

/-! ## Translation and memory requests (01) -/

/-- The length check and steps 1 and 2: no window covers the first byte for the port, or the one that does ends before
the last byte (R8, R9, R10, R123). At most one window covers it, and translation finds it. -/
def Obligations.LookupFindsTheOneWindow : Prop :=
  ∀ (s : State) (p : Port) (tag : Byte) (a : Word), WindowLaw s →
    (∀ w, s.findWindow p a.toNat = some w ↔ s.Covers p a.toNat w)
    ∧ (∀ n : Nat, n = 0 ∨ 256 < n → s.check p tag a (.read n) = .refused .badLength none)
    ∧ (∀ data : List Byte, data = [] ∨ 256 < data.length →
        s.check p tag a (.program data) = .refused .badLength none)
    ∧ (∀ ask : Ask, (∀ n, ask = .read n → 1 ≤ n ∧ n ≤ 256) →
        (∀ data, ask = .program data → 1 ≤ data.length ∧ data.length ≤ 256) →
        ((∀ w, ¬ s.Covers p a.toNat w) → s.check p tag a ask = .refused .noWindow none)
        ∧ ∀ w, s.Covers p a.toNat w →
          (s.window w).logicalBase.toNat + (s.window w).size ≤ a.toNat + ask.count - 1 →
            s.check p tag a ask = .refused .boundary (some w))

/-- Step 3: a request that reaches it is refused DENIED exactly when the requesting port's rights set of the window
lacks the right its kind needs (R11). -/
def Obligations.MissingRightIsDenied : Prop :=
  ∀ (s : State) (p : Port) (tag : Byte) (a : Word) (w : WindowNo), WindowLaw s →
    (∀ n, s.InRange p a.toNat (.read n) w →
      (s.check p tag a (.read n) = .refused .denied (some w) ↔ ((s.window w).rights.get p).read = false))
    ∧ (∀ data, s.InRange p a.toNat (.program data) w →
      (s.check p tag a (.program data) = .refused .denied (some w) ↔ ((s.window w).rights.get p).program = false))
    ∧ ∀ k, s.InRange p a.toNat (.erase k) w →
      (s.check p tag a (.erase k) = .refused .denied (some w) ↔ ((s.window w).rights.get p).erase = false)

/-- Steps 4 to 6: a pending swap, an absent or faulted device, a range past the device's capacity (R12, R13, R14).
Step 7 for a PROGRAM and for a READ: a PROGRAM whose first and last physical byte lie in different pages is refused
PAGE_CROSS, one within a page is translated, and a READ is translated (R15, R17). -/
def Obligations.DeviceAndPageChecks : Prop :=
  (∀ (s : State) (p : Port) (tag : Byte) (a : Word) (ask : Ask) (w : WindowNo), WindowLaw s →
    s.InRange p a.toNat ask w → s.right p w ask = true →
    ((s.window w).swapPending = true → s.check p tag a ask = .refused .swapPending (some w))
    ∧ ((s.window w).swapPending = false →
      ((s.tracker (s.window w).device).state = .offline → s.check p tag a ask = .refused .noDevice (some w))
      ∧ ((s.tracker (s.window w).device).state = .faulted → s.check p tag a ask = .refused .deviceFault (some w))
      ∧ ((s.tracker (s.window w).device).state ≠ .offline → (s.tracker (s.window w).device).state ≠ .faulted →
        2 ^ (s.profile (s.window w).device).capacityLog ≤ s.physicalStart a.toNat w + ask.count - 1 →
          s.check p tag a ask = .refused .outOfDevice (some w))))
  ∧ ∀ (s : State) (p : Port) (tag : Byte) (a : Word) (w : WindowNo), WindowLaw s →
    (∀ data, s.Reaches p a.toNat (.program data) w →
      let page := 2 ^ (s.profile (s.window w).device).pageLog
      let start := s.physicalStart a.toNat w
      (start / page ≠ (start + data.length - 1) / page →
        s.check p tag a (.program data) = .refused .pageCross (some w))
      ∧ (start / page = (start + data.length - 1) / page →
        s.check p tag a (.program data)
          = .translated (s.translation p tag a.toNat (.program data) w (.program data))))
    ∧ ∀ n, s.Reaches p a.toNat (.read n) w →
      s.check p tag a (.read n) = .translated (s.translation p tag a.toNat (.read n) w .read)

/-- Step 7 for an ERASE: the size must be that of one of the profile's erase units and the physical start a multiple
of it, or the request is refused MISALIGNED, a size field of 0 always; when it passes, the unit that matched is the
request's erase unit, numbered in the profile's order (R16). -/
def Obligations.EraseUnitMatched : Prop :=
  ∀ (s : State) (p : Port) (tag : Byte) (a : Word) (k : Nat) (w : WindowNo), WindowLaw s →
    s.Reaches p a.toNat (.erase k) w →
    let units := (s.profile (s.window w).device).eraseUnits
    let start := s.physicalStart a.toNat w
    (k = 0 → s.check p tag a (.erase k) = .refused .misaligned (some w))
    ∧ ((∀ u ∈ units, 2 ^ u.sizeLog ≠ 1024 * k) → s.check p tag a (.erase k) = .refused .misaligned (some w))
    ∧ (start % (1024 * k) ≠ 0 → s.check p tag a (.erase k) = .refused .misaligned (some w))
    ∧ ∀ (n : Nat) (u : EraseUnit), (units.map EraseUnit.sizeLog).Nodup → units[n]? = some u →
      2 ^ u.sizeLog = 1024 * k → start % 2 ^ u.sizeLog = 0 →
        s.check p tag a (.erase k)
          = .translated (s.translation p tag a.toNat (.erase k) w (.erase (n + 1)))

/-- READ, PROGRAM and ERASE that pass intake, the length check and every step of translation: the request joins the
tail of its port queue with the physical range that step 6 computed, the use count and the device reference count
rise by 1, the reservation is held, receipt ACCEPTED; then the event closes (R17, R122, R123). -/
def Obligations.MemoryRequestsAreQueued : Prop :=
  ∀ (s : State) (p : Port) (tag : Byte) (a : Word) (w : WindowNo), WindowLaw s → s.Accepts p tag →
    (s.queue p).length < 4 →
    (∀ n : Half, s.Reaches p a.toNat (.read n.toNat) w →
      exec (.read p tag a n) s
        = .next (((s.reserved p tag).placed
            (s.translation p tag a.toNat (.read n.toNat) w .read)).close))
    ∧ (∀ data : List Byte, s.Reaches p a.toNat (.program data) w →
      s.physicalStart a.toNat w / 2 ^ (s.profile (s.window w).device).pageLog
        = (s.physicalStart a.toNat w + data.length - 1) / 2 ^ (s.profile (s.window w).device).pageLog →
      exec (.program p tag a data) s
        = .next (((s.reserved p tag).placed
            (s.translation p tag a.toNat (.program data) w (.program data))).close))
    ∧ ∀ (k : Half) (n : Nat) (u : EraseUnit), s.Reaches p a.toNat (.erase k.toNat) w →
      ((s.profile (s.window w).device).eraseUnits.map EraseUnit.sizeLog).Nodup →
      (s.profile (s.window w).device).eraseUnits[n]? = some u → 2 ^ u.sizeLog = 1024 * k.toNat →
      s.physicalStart a.toNat w % 2 ^ u.sizeLog = 0 →
      exec (.erase p tag a k) s
        = .next (((s.reserved p tag).placed
            (s.translation p tag a.toNat (.erase k.toNat) w (.erase (n + 1)))).close)

/-- A refused memory request is answered at once with its kind, tag and status; NO_WINDOW, BOUNDARY and DENIED raise
the port's denial count, which stays at 65535, and BOUNDARY and DENIED through a window with report yes raise a DENIAL
notice of count 1 on the manager (R18, R19, R166). -/
def Obligations.RefusedMemoryRequestIsAnswered : Prop :=
  ∀ (i : Instr) (p : Port) (tag : Byte) (a : Word) (ask : Ask) (st : Status) (w : Option WindowNo) (s : State),
    memoryAsk i = some (p, tag, a, ask) → s.Accepts p tag → (s.queue p).length < 4 →
    s.check p tag a ask = .refused st w →
      let answered := s.answered p tag (.response ask.kind tag st .absent)
      let count := if (s.denials.get p).toNat = 65535 then s.denials.get p else s.denials.get p + 1
      let counted : State := { answered with denials := s.denials.set p count }
      (st ≠ .noWindow → st ≠ .boundary → st ≠ .denied → exec i s = .next answered.close)
      ∧ (st = .noWindow → exec i s = .next counted.close)
      ∧ (st = .boundary ∨ st = .denied →
        ((∃ v, w = some v ∧ (s.window v).report = true) →
          exec i s = .next (counted.raise s.manager (.denial 1)).close)
        ∧ ((∀ v, w = some v → (s.window v).report = false) → exec i s = .next counted.close))

/-! ## The control requests (01, 02, 09) -/

/-- WINDOW_WRITE that passes the checks of R20 replaces the entry whole, and is answered DONE (R22); a record with
state EMPTY makes the entry EMPTY.
PROFILE_WRITE that passes the checks of R35 replaces the entry whole and is answered DONE; the tracker becomes IDLE
or OFFLINE by the new entry, its consecutive-timeout count 0 and its timers disarmed (R36). -/
def Obligations.TableWritesReplaceEntries : Prop :=
  (∀ (s : State) (tag : Byte) (number : Word) (n : WindowNo) (r : WindowRecord),
    AttentionLaw s → s.Accepts s.manager tag → s.frozen = false → number.toNat = n.val →
    (s.window n).useCount = 0 → (s.window n).swapPending = false → r.valid = true →
    (∀ m, m ≠ n → r.toWindow.collides (s.window m) = false) →
      exec (.windowWrite s.manager tag number r) s
        = .next (State.answered { s with windows := s.windows.set n r.toWindow } s.manager tag
            (.response .windowWrite tag .done .absent))
      ∧ (r.state = 0 → r.toWindow = Window.empty))
  ∧ ∀ (s : State) (tag : Byte) (number : Word) (d : Device) (r : ProfileRecord), AttentionLaw s →
    s.Accepts s.manager tag → s.frozen = false → number.toNat = d.val →
    (s.tracker d).state ∈ [TrackerState.offline, .idle, .faulted] → (s.tracker d).refCount = 0 → r.valid = true →
      exec (.profileWrite s.manager tag number r) s
        = .next (State.answered
            { s with
              profiles := s.profiles.set d r.toProfile
              trackers := s.trackers.set d { s.tracker d with
                state := if r.present = 1 then .idle else .offline
                timeouts := 0
                pollTimer := none
                suspendSettle := none
                resetSettle := none } }
            s.manager tag (.response .profileWrite tag .done .absent))

/-- The configuring and directing requests of a port that is not the manager are refused NOT_MANAGER, and change
nothing: WINDOW_WRITE, PROFILE_WRITE, SWAP, FREEZE, HANDOVER, STATUS_READ with clear, WARM_RESET, and an ABORT of the
other port's request (R158). -/
def Obligations.OthersAreNotManager : Prop :=
  ∀ (s : State) (p : Port) (tag : Byte), AttentionLaw s → s.Accepts p tag → p ≠ s.manager →
    (∀ n r, exec (.windowWrite p tag n r) s = .next (s.answered p tag (.response .windowWrite tag .notManager .absent)))
    ∧ (∀ n r, exec (.profileWrite p tag n r) s
        = .next (s.answered p tag (.response .profileWrite tag .notManager .absent)))
    ∧ (∀ n, exec (.swap p tag n) s = .next (s.answered p tag (.response .swap tag .notManager .absent)))
    ∧ exec (.freeze p tag) s = .next (s.answered p tag (.response .freeze tag .notManager .absent))
    ∧ exec (.handover p tag) s = .next (s.answered p tag (.response .handover tag .notManager .absent))
    ∧ exec (.statusRead p tag true) s = .next (s.answered p tag (.response .statusRead tag .notManager .absent))
    ∧ (∀ e, exec (.warmReset p tag e) s = .next (s.answered p tag (.response .warmReset tag .notManager .absent)))
    ∧ ∀ u, exec (.abort p tag p.other u) s = .next (s.answered p tag (.response .abort tag .notManager .absent))

/-- The manager's refused requests: the checks of WINDOW_WRITE, PROFILE_WRITE and SWAP in their orders (R20, R24, R35);
HANDOVER under freeze (R160), FREEZE beside a pending swap (R162), WARM_RESET with another epoch (R177). Each is
answered with its status, and changes nothing else. Before them, which window records and profile records are valid
(R21, R33, R192). -/
def Obligations.ManagerRequestsRefused : Prop :=
  (∀ r : WindowRecord, r.valid = true ↔ r.state = 0 ∨ r.state = 1
    ∧ (r.owners = 1 ∨ r.owners = 2 ∨ r.owners = 3) ∧ r.device.toNat ≤ 3
    ∧ 1 ≤ r.size.toNat
    ∧ r.logicalBase.toNat % 4096 = 0 ∧ r.logicalBase.toNat + 4096 * r.size.toNat ≤ 2 ^ 32
    ∧ r.bank0.toNat % 4096 = 0 ∧ r.bank0.toNat + 4096 * r.size.toNat ≤ 2 ^ 32
    ∧ (r.flags.getLsbD 0 = true → r.bank1.toNat % 4096 = 0 ∧ r.bank1.toNat + 4096 * r.size.toNat ≤ 2 ^ 32)
    ∧ (r.flags.getLsbD 1 = true → r.flags.getLsbD 0 = true)
    ∧ (r.owners = 2 → ∀ i < 3, r.rightsA.getLsbD i = false)
    ∧ (r.owners = 1 → ∀ i < 3, r.rightsB.getLsbD i = false))
  ∧ (∀ r : ProfileRecord,
    let units := [r.unit1, r.unit2, r.unit3].take r.unitCount.toNat
    r.valid = true ↔ r.present = 0 ∨ r.present = 1
    ∧ 16 ≤ r.capacity.toNat ∧ r.capacity.toNat ≤ 32
    ∧ (r.addressBytes = 4 ∨ r.addressBytes = 3 ∧ r.capacity.toNat ≤ 24)
    ∧ 4 ≤ r.pageSize.toNat ∧ r.pageSize.toNat ≤ 8 ∧ r.readDummy.toNat ≤ 4
    ∧ 1 ≤ r.unitCount.toNat ∧ r.unitCount.toNat ≤ 3
    ∧ (∀ u ∈ units, 12 ≤ u.size.toNat ∧ u.size.toNat ≤ 18 ∧ u.size.toNat ≤ r.capacity.toNat ∧ u.limit ≠ 0)
    ∧ (units.map UnitRecord.size).Nodup
    ∧ 100 ≤ r.programLimit.toNat
    ∧ r.busyBit.toNat ≤ 7 ∧ (r.errorBit.toNat ≤ 7 ∨ r.errorBit = 0xFF)
    ∧ (r.suspendedBit.toNat ≤ 7 ∨ r.suspendedBit = 0xFF)
    ∧ r.busyBit ≠ r.errorBit ∧ r.busyBit ≠ r.suspendedBit ∧ (r.errorBit = r.suspendedBit → r.errorBit = 0xFF)
    ∧ (∀ i, 4 ≤ i → i < 8 → r.suspendFlags.getLsbD i = false)
    ∧ (r.suspendFlags.getLsbD 1 = true ∨ r.suspendFlags.getLsbD 2 = true →
        r.suspendFlags.getLsbD 0 = true ∧ r.suspendedBit ≠ 0xFF)
    ∧ (r.suspendFlags.getLsbD 3 = true → r.suspendFlags.getLsbD 2 = true)
    ∧ 1 ≤ r.suspendLimit.toNat ∧ r.suspendLimit.toNat ≤ 15
    ∧ 1 ≤ r.settleLimit.toNat ∧ r.settleLimit.toNat ≤ 4095
    ∧ 8 ≤ r.pollInterval.toNat ∧ r.pollInterval.toNat ≤ 4095
    ∧ (r.resetCount = 1 ∨ r.resetCount = 2)
    ∧ 1 ≤ r.resetSettle.toNat ∧ r.resetSettle.toNat ≤ 4095)
  ∧ ∀ (s : State) (tag : Byte), AttentionLaw s → s.Accepts s.manager tag →
    let refused := fun (k : RequestKind) (st : Status) =>
      Host.Outcome.next (φ := Fault) (ρ := Refusal) (s.answered s.manager tag (.response k tag st .absent))
    (s.frozen = true → ∀ n r, exec (.windowWrite s.manager tag n r) s = refused .windowWrite .frozen)
    ∧ (s.frozen = true → ∀ n r, exec (.profileWrite s.manager tag n r) s = refused .profileWrite .frozen)
    ∧ (s.frozen = true → exec (.handover s.manager tag) s = refused .handover .frozen)
    ∧ (s.frozen = false → ∀ (n : Word) r, 15 < n.toNat →
        exec (.windowWrite s.manager tag n r) s = refused .windowWrite .badArgument)
    ∧ (s.frozen = false → ∀ (n : Word) (w : WindowNo) r, n.toNat = w.val →
        (0 < (s.window w).useCount ∨ (s.window w).swapPending = true →
          exec (.windowWrite s.manager tag n r) s = refused .windowWrite .inUse)
        ∧ ((s.window w).useCount = 0 → (s.window w).swapPending = false →
          (r.valid = false → exec (.windowWrite s.manager tag n r) s = refused .windowWrite .badArgument)
          ∧ (r.valid = true → (∃ v, v ≠ w ∧ r.toWindow.collides (s.window v) = true) →
            exec (.windowWrite s.manager tag n r) s = refused .windowWrite .overlap)))
    ∧ (s.frozen = false → ∀ (n : Word) r, 3 < n.toNat →
        exec (.profileWrite s.manager tag n r) s = refused .profileWrite .badArgument)
    ∧ (s.frozen = false → ∀ (n : Word) (d : Device) r, n.toNat = d.val →
        ((s.tracker d).state ∈ [TrackerState.running, .suspending, .suspended, .recovering]
            ∨ 0 < (s.tracker d).refCount →
          exec (.profileWrite s.manager tag n r) s = refused .profileWrite .deviceBusy)
        ∧ ((s.tracker d).state ∈ [TrackerState.offline, .idle, .faulted] → (s.tracker d).refCount = 0 →
          r.valid = false → exec (.profileWrite s.manager tag n r) s = refused .profileWrite .badArgument))
    ∧ (∀ n : Word, 15 < n.toNat → exec (.swap s.manager tag n) s = refused .swap .badArgument)
    ∧ (∀ (n : Word) (w : WindowNo), n.toNat = w.val →
        ((s.window w).active = false ∨ (s.window w).bank1 = none →
          exec (.swap s.manager tag n) s = refused .swap .badArgument)
        ∧ ((s.window w).active = true → (s.window w).bank1 ≠ none →
          (s.frozen = true → (s.window w).swapOpen = false → exec (.swap s.manager tag n) s = refused .swap .frozen)
          ∧ (s.frozen = false ∨ (s.window w).swapOpen = true → (s.window w).swapPending = true →
            exec (.swap s.manager tag n) s = refused .swap .swapPending)))
    ∧ ((∃ w, (s.window w).swapPending = true ∧ (s.window w).swapOpen = false) →
        exec (.freeze s.manager tag) s = refused .freeze .swapPending)
    ∧ ∀ e, e ≠ s.epoch → exec (.warmReset s.manager tag e) s = refused .warmReset .staleEpoch

/-- WINDOW_READ and PROFILE_READ return the record of the entry as it stands, or BAD_ARGUMENT or DENIED, and change
nothing of their tables (R23, R37). -/
def Obligations.TableReadsReturnRecords : Prop :=
  ∀ (s : State) (p : Port) (tag : Byte) (number : Word), AttentionLaw s → s.Accepts p tag →
    (∀ n : WindowNo, number.toNat = n.val → p = s.manager ∨ (s.window n).owners.get p = true →
      exec (.windowRead p tag number) s
        = .next (s.answered p tag (.response .windowRead tag .done (.window (s.window n).toRecord))))
    ∧ (∀ n : WindowNo, number.toNat = n.val → p ≠ s.manager → (s.window n).owners.get p = false →
      exec (.windowRead p tag number) s = .next (s.answered p tag (.response .windowRead tag .denied .absent)))
    ∧ (15 < number.toNat →
      exec (.windowRead p tag number) s = .next (s.answered p tag (.response .windowRead tag .badArgument .absent)))
    ∧ (∀ d : Device, number.toNat = d.val →
      exec (.profileRead p tag number) s
        = .next (s.answered p tag (.response .profileRead tag .done (.profile (s.profile d).toRecord))))
    ∧ (3 < number.toNat →
      exec (.profileRead p tag number) s
        = .next (s.answered p tag (.response .profileRead tag .badArgument .absent)))

/-- What is written is what is read back: the record of the entry that a valid record makes is that record, with the
fields and bits that are ignored when written read back as 0, and the use count 0 (R22, R36, R188, R192). The record of
an absent profile has present 00h, the error and suspended positions FFh and 00h elsewhere (R28, R192). -/
def Obligations.RecordsReadBack : Prop :=
  (∀ r : WindowRecord, r.valid = true → r.state = 1 →
    r.toWindow.toRecord = { r with
      flags := r.flags &&& 0x0F
      rightsA := r.rightsA &&& 0x07
      rightsB := r.rightsB &&& 0x07
      useCount := 0
      bank1 := if r.flags.getLsbD 0 then r.bank1 else 0 })
  ∧ (∀ r : WindowRecord, r.state = 0 → r.toWindow.toRecord =
    { state := 0, owners := 0, device := 0, flags := 0, rightsA := 0, rightsB := 0, useCount := 0,
      logicalBase := 0, size := 0, bank0 := 0, bank1 := 0 })
  ∧ (∀ r : ProfileRecord, r.valid = true → r.present = 1 →
    let none : UnitRecord := { size := 0, command := 0, limit := 0 }
    r.toProfile.toRecord = { r with
      suspendCommand := if r.suspendFlags.getLsbD 0 then r.suspendCommand else 0
      resumeCommand := if r.suspendFlags.getLsbD 0 then r.resumeCommand else 0
      unit2 := if r.unitCount.toNat < 2 then none else r.unit2
      unit3 := if r.unitCount.toNat < 3 then none else r.unit3
      resetCode2 := if r.resetCount.toNat < 2 then 0 else r.resetCode2 })
  ∧ (∀ r : ProfileRecord, r.present = 0 → r.toProfile = Profile.absent)
  ∧ Profile.absent.toRecord =
    { present := 0, capacity := 0, addressBytes := 0, pageSize := 0, readCommand := 0, readDummy := 0, writeEnable := 0,
      programCommand := 0, programLimit := 0, statusCommand := 0, busyBit := 0, errorBit := 0xFF, suspendedBit := 0xFF,
      suspendFlags := 0, suspendCommand := 0, resumeCommand := 0, suspendLimit := 0, settleLimit := 0,
      pollInterval := 0, unitCount := 0, unit1 := { size := 0, command := 0, limit := 0 },
      unit2 := { size := 0, command := 0, limit := 0 }, unit3 := { size := 0, command := 0, limit := 0 },
      resetCount := 0, resetCode1 := 0, resetCode2 := 0, resetSettle := 0 }

/-- SWAP that passes the checks of R24: the active bank flips at once and DONE is answered when the use count is 0;
otherwise swap pending is set, the active bank keeps its value and PENDING is answered (R24, R25). -/
def Obligations.SwapFlipsOrDefers : Prop :=
  ∀ (s : State) (tag : Byte) (number : Word) (n : WindowNo), AttentionLaw s → s.Accepts s.manager tag →
    number.toNat = n.val → (s.window n).active = true → (s.window n).bank1 ≠ none →
    (s.frozen = false ∨ (s.window n).swapOpen = true) → (s.window n).swapPending = false →
    ((s.window n).useCount = 0 →
      exec (.swap s.manager tag number) s
        = .next (State.answered
            { s with windows := s.windows.set n { s.window n with activeBank :=
                match (s.window n).activeBank with | .bank0 => .bank1 | .bank1 => .bank0 } }
            s.manager tag (.response .swap tag .done .absent)))
    ∧ (0 < (s.window n).useCount →
      exec (.swap s.manager tag number) s
        = .next (State.answered { s with windows := s.windows.set n { s.window n with swapPending := true } }
            s.manager tag (.response .swap tag .pending .absent)))

/-- FREEZE of the manager, with no swap pending on a window that is not swap-open, sets frozen and is answered DONE,
frozen or not before (R162).
HANDOVER of the manager, not frozen: the other port becomes manager, DONE is queued on the old manager port, and
MANAGER_CHANGED with the new manager is raised on both ports before the event closes (R160). -/
def Obligations.FreezeAndHandover : Prop :=
  (∀ (s : State) (tag : Byte), AttentionLaw s → s.Accepts s.manager tag →
    (∀ w, (s.window w).swapPending = true → (s.window w).swapOpen = true) →
      exec (.freeze s.manager tag) s
        = .next (State.answered { s with frozen := true } s.manager tag (.response .freeze tag .done .absent)))
  ∧ ∀ (s : State) (tag : Byte), s.Accepts s.manager tag → s.frozen = false →
    let new := s.manager.other
    exec (.handover s.manager tag) s
      = .next ((((State.answered { s with manager := new } s.manager tag (.response .handover tag .done .absent)).raise
          .A (.managerChanged new)).raise .B (.managerChanged new)).close)

/-- STATUS_READ is answered DONE with a record of the part, the devices and the ports as they stand, its own
reservation counted; with clear from the manager, both bad-frame counts and both denial counts are 0 after the record
was taken, and nothing else is cleared (R71, R129, R164, R165). -/
def Obligations.StatusReadReports : Prop :=
  ∀ (s : State) (p : Port) (tag : Byte) (clear : Bool), AttentionLaw s → s.Accepts p tag →
    (clear = true → p = s.manager) →
    ∃ rec : StatusRecord,
      exec (.statusRead p tag clear) s
        = .next (State.answered
            (if clear then
              { s with
                denials := { a := 0, b := 0 }
                links := { a := { s.link .A with badFrames := 0 }, b := { s.link .B with badFrames := 0 } } }
            else s)
            p tag (.response .statusRead tag .done (.status rec)))
      ∧ rec.epoch = s.epoch ∧ rec.manager = s.manager ∧ rec.frozen = s.frozen ∧ rec.part = .operating
      ∧ (∀ d : Device, rec.devices[d] =
          { state := (s.tracker d).state
            depth := (s.tracker d).stack.length
            top := (s.tracker d).stack.head?.map OpRecord.kind
            timeouts := (s.tracker d).timeouts
            refCount := (s.tracker d).refCount })
      ∧ ∀ q : Port, rec.ports.get q =
          { occupancy := (s.queue q).length
            reservations := (s.out q).reservations + if q = p then 1 else 0
            outbound := (s.out q).queue.length
            badFrames := (s.link q).badFrames
            denials := s.denials.get q }

/-! ## ABORT (10 section 10.1) -/

/-- ABORT of a waiting request, by its own port or the manager: the target leaves its port queue, is answered ABORTED,
and the ABORT is answered DONE; then the event closes (R171, R172). -/
def Obligations.AbortTakesWaitingRequest : Prop :=
  ∀ (s : State) (p q : Port) (tag : Byte) (r : Request), s.Accepts p tag → (q = p ∨ p = s.manager) →
    TagLaw s → r ∈ s.queue q →
      exec (.abort p tag q r.tag) s
        = .next (((State.answer
            { s.reserved p tag with queues := s.queues.set q ((s.queue q).erase r) }
            q (.response r.work.kind r.tag .aborted .absent) r.window r.device).respond p
              (.response .abort tag .done .absent)).close)

/-- ABORT of a request whose READ job or start job is in progress sets the job's abort mark and is answered DONE; the
job is left to run (R173, R174). ABORT of a request that is nowhere, already marked, ending, or answered, is answered
NOT_FOUND and changes nothing (R171). -/
def Obligations.AbortMarksJobOrFindsNothing : Prop :=
  ∀ (s : State) (p q : Port) (tag u : Byte), s.Accepts p tag → (q = p ∨ p = s.manager) →
    (∀ r ∈ s.queue q, r.tag ≠ u) →
    (∀ (r : Request) (sel : List SelectPeriod), s.job = some { kind := .request r false, selects := sel } →
      r.port = q → r.tag = u →
        exec (.abort p tag q u) s
          = .next (State.close (State.answered { s with job := some { kind := .request r true, selects := sel } }
              p tag (.response .abort tag .done .absent))))
    ∧ (AttentionLaw s →
      (∀ (r : Request) (sel : List SelectPeriod), s.job = some { kind := .request r false, selects := sel } →
        r.port ≠ q ∨ r.tag ≠ u) →
      (∀ d, ∀ rec ∈ (s.tracker d).stack, rec.port = q → rec.tag = u → rec.endStatus ≠ none) →
        exec (.abort p tag q u) s = .next (s.answered p tag (.response .abort tag .notFound .absent)))

/-- ABORT of an op record that is not ending: the record is set ABORTED with its abort mark, every other record of the
stack LOST, and the tracker enters RECOVERING with cause ABORTED, its POLL, SUSPEND and RESUME withdrawn, its poll and
suspend settle timers disarmed, a RESET wanted; the ABORT is answered DONE (R62, R171, R175). -/
def Obligations.AbortEndsOpRecord : Prop :=
  ∀ (s : State) (p q : Port) (tag : Byte) (d : Device) (rec : OpRecord), s.Accepts p tag →
    (q = p ∨ p = s.manager) → TagLaw s →
    rec ∈ (s.tracker d).stack → rec.port = q → rec.endStatus = none →
      exec (.abort p tag q rec.tag) s
        = .next (State.close (State.answered
            { s with trackers := s.trackers.set d { s.tracker d with
                state := .recovering
                stack := (s.tracker d).stack.map fun x =>
                  if x = rec then { x with abortMark := true, deadlineDue := false, endStatus := some .aborted }
                  else { x with deadlineDue := false, endStatus := some (x.endStatus.getD .lost) }
                wantPoll := false
                wantSuspend := false
                wantResume := false
                wantReset := true
                pollTimer := none
                suspendSettle := none
                cause := some .aborted } }
            p tag (.response .abort tag .done .absent)))

/-! ## The reset sequences (10 sections 10.3 and 10.4) -/

/-- WARM_RESET of the manager with the current epoch is answered by nothing, and the sequence begins in its event: the
discard of every request, message, notice and count, the trackers taken over, the job in progress left to run, frames
in progress turned to fill; the receipt ACCEPTED is written, and nothing else changes (R155, R177, R178). A frame turned
to fill keeps the bytes it holds and its count, its stream is empty, so that every byte and bit it still shifts out is
FFh, and no message stays latched.
RESET_PIN_ASSERT after cold start, at any moment of a run or of another sequence: the discard of R178, the bus job
cut, every tracker with a present profile RECOVERING with no RESET wanted yet (R47, R183, R184). A pin already asserted
is not asserted again (assumption 2); before cold start has ended the pin is held and cold start with it
(assumption 6). -/
def Obligations.ResetSequencesBegin : Prop :=
  (∀ (s : State) (tag : Byte), s.Accepts s.manager tag →
    exec (.warmReset s.manager tag s.epoch) s = .next { s with
      part := .resetting
      clearStep := false
      windows := s.windows.map fun w => { w with useCount := 0, swapPending := false }
      queues := { a := [], b := [] }
      outbound := { a := Outbound.empty, b := Outbound.empty }
      lastGranted := .B
      trackers := s.trackers.map fun t =>
        match t.state with
        | .offline => { Tracker.cold with state := .offline }
        | .idle => { Tracker.cold with state := .idle }
        | _ => { Tracker.cold with state := .recovering, wantReset := true }
      links :=
        { a := ((s.receipted s.manager tag .accepted).link .A).toFill
          b := ((s.receipted s.manager tag .accepted).link .B).toFill } })
  ∧ (∀ l : Link, (∀ f, l.select = .frame f →
        l.toFill = { l with select := .frame { held := f.held, stream := [], latched := none } })
      ∧ ((∀ f, l.select ≠ .frame f) → l.toFill = l))
  ∧ (∀ s : State, s.power = .on → s.resetPin = false →
    exec .resetPinAssert s = .next { s with
      resetPin := true
      part := .resetting
      clearStep := false
      job := none
      windows := s.windows.map fun w => { w with useCount := 0, swapPending := false }
      queues := { a := [], b := [] }
      outbound := { a := Outbound.empty, b := Outbound.empty }
      lastGranted := .B
      trackers := s.trackers.mapFinIdx fun d t h =>
        if (s.profile ⟨d, h⟩).present then { Tracker.cold with state := .recovering }
        else { Tracker.cold with state := t.state }
      links := { a := (s.link .A).toFill, b := (s.link .B).toFill } })
  ∧ (∀ s : State, s.power = .on → s.resetPin = true → exec .resetPinAssert s = .next s)
  ∧ ∀ s : State, s.power = .coldStart → exec .resetPinAssert s = .next { s with resetPin := true }

/-- CLEAR_STEP within a warm reset sequence, once, and the release of the reset pin within a pin reset sequence: both
receipts (00h, NONE), both bad-frame counts and both denial counts 0, the clear-step flag yes; at the release every
RECOVERING tracker comes to want a RESET (R180, R183). -/
def Obligations.ClearStepClears : Prop :=
  ∀ s : State, s.power = .on → s.part = .resetting →
    let cleared : State := { s with
      denials := { a := 0, b := 0 }
      clearStep := true
      links :=
        { a := { s.link .A with receipt := { tag := 0, code := .none }, badFrames := 0 }
          b := { s.link .B with receipt := { tag := 0, code := .none }, badFrames := 0 } } }
    (s.clearStep = false → s.resetPin = false → exec .clearStep s = .next cleared)
    ∧ (s.resetPin = true → exec .resetPinRelease s = .next { cleared with
        resetPin := false
        trackers := s.trackers.map fun t =>
          if t.state = .recovering then { t with wantReset := true } else t })

/-- RESET_SEQUENCE_END, once the clear step is taken, no job is in progress and no tracker is RECOVERING: the epoch
rises by 1, from 65535 to 0, the part is OPERATING, and RESET_DONE with the new epoch stands alone in each outbound
queue, attention asserted (R167, R182). Until then it does not happen (assumption 2). -/
def Obligations.SequenceEndAnnounces : Prop :=
  ∀ s : State, s.power = .on → s.part = .resetting →
    (s.clearStep = true → s.job = none → (∀ d, (s.tracker d).state ≠ .recovering) →
      (∀ p, (s.out p).queue = [] ∧ (s.out p).reservations = 0 ∧ (s.out p).notices = .empty) →
      let done : Outbound :=
        { queue := [.notice (.resetDone (s.epoch + 1))], reservations := 0, notices := .empty, attention := true }
      exec .resetSequenceEnd s = .next { s with
        epoch := s.epoch + 1
        part := .operating
        outbound := { a := done, b := done } })
    ∧ (s.clearStep = false ∨ s.job ≠ none ∨ (∃ d, (s.tracker d).state = .recovering) →
      exec .resetSequenceEnd s = .next s)

/-! ## The downstream bus (02 section 2.5, 05) -/

/-- The select periods of each job: what is sent in each, and how many bytes are taken in (R41, R43 to R46); an address
of n bytes, most significant first, has n bytes and the value of the physical start. -/
def Obligations.CommandSequences : Prop :=
  (∀ n a : Nat, (addressBytes n a).length = n
    ∧ (a < 256 ^ n → (addressBytes n a).foldl (fun v b => 256 * v + b.toNat) 0 = a))
  ∧ (∀ (prof : Profile) (r : Request),
    let address := addressBytes prof.addressBytes r.start
    (r.work = .read → requestSelects prof r =
      [{ device := r.device
         sent := prof.readCommand :: (address ++ List.replicate prof.readDummy 0xFF)
         takes := r.count }])
    ∧ (∀ data, r.work = .program data → requestSelects prof r =
      [{ device := r.device, sent := [prof.writeEnable], takes := 0 },
       { device := r.device, sent := prof.programCommand :: (address ++ data), takes := 0 }])
    ∧ ∀ (n : Nat) (u : EraseUnit), r.work = .erase (n + 1) → prof.eraseUnits[n]? = some u → requestSelects prof r =
      [{ device := r.device, sent := [prof.writeEnable], takes := 0 },
       { device := r.device, sent := u.command :: address, takes := 0 }])
  ∧ ∀ (prof : Profile) (d : Device),
    trackerSelects prof .poll d = [{ device := d, sent := [prof.statusCommand], takes := 1 }]
    ∧ (∀ suspend resume : Byte, prof.suspendResume = some (suspend, resume) →
      trackerSelects prof .suspend d = [{ device := d, sent := [suspend], takes := 0 }]
      ∧ trackerSelects prof .resume d = [{ device := d, sent := [resume], takes := 0 }])
    ∧ trackerSelects prof .reset d
      = prof.resetSequence.map fun code => { device := d, sent := [code], takes := 0 }

/-- BUS_GRANT of a tracker's job, with the bus free: RESET before SUSPEND and RESUME before POLL, the lowest device
first in each class; the job ceases to be wanted and is in progress (R49, R94, R95). -/
def Obligations.TrackerJobsGrantedByClass : Prop :=
  ∀ (s : State) (d : Device), s.power ≠ .off → s.job = none →
    (∀ e, e < d → (s.tracker e).wantReset = false) →
    let run := fun (k : TrackerJob) (t : Tracker) =>
      Host.Outcome.next (φ := Fault) (ρ := Refusal) (State.reconsider { s with
        trackers := s.trackers.set d t
        job := some { kind := .tracker k d, selects := trackerSelects (s.profile d) k d } })
    ((s.tracker d).wantReset = true →
      exec .busGrant s = run .reset { s.tracker d with wantReset := false })
    ∧ ((∀ e, (s.tracker e).wantReset = false) →
      (∀ e, e < d → (s.tracker e).wantSuspend = false ∧ (s.tracker e).wantResume = false) →
      ((s.tracker d).wantSuspend = true →
        exec .busGrant s = run .suspend { s.tracker d with wantSuspend := false })
      ∧ ((s.tracker d).wantSuspend = false → (s.tracker d).wantResume = true →
        exec .busGrant s = run .resume { s.tracker d with wantResume := false })
      ∧ ((∀ e, (s.tracker e).wantSuspend = false ∧ (s.tracker e).wantResume = false) →
        (∀ e, e < d → (s.tracker e).wantPoll = false) → (s.tracker d).wantPoll = true →
          exec .busGrant s = run .poll { s.tracker d with wantPoll := false }))

/-- BUS_GRANT of a request job, with the bus free and no job wanted: the port other than the last-granted one is
offered first, and within the port the oldest eligible request, one before which no older request of that port for
the same device waits; the request leaves its queue, the others keep their order, its port becomes the last-granted
port, and its job is in progress with no abort mark (R93, R96, R97, R102, R103). With nothing eligible either, the
arbiter waits (R94). -/
def Obligations.RequestGrantedByAlternationAndAge : Prop :=
  ∀ s : State, s.power ≠ .off → s.job = none → (∀ d, (s.tracker d).wantsAny = false) →
    let stuck := fun (older : List Request) =>
      ∀ pre x post, older = pre ++ x :: post → (∀ y ∈ pre, y.device ≠ x.device) → s.eligible x = false
    (∀ (q : Port) (pre post : List Request) (r : Request), s.queue q = pre ++ r :: post →
      r.port = q → (∀ x ∈ pre, x.device ≠ r.device) → s.eligible r = true → stuck pre →
      (q = s.lastGranted → stuck (s.queue q.other)) →
        exec .busGrant s = .next (State.reconsider { s with
          queues := s.queues.set q (pre ++ post)
          lastGranted := q
          job := some { kind := .request r false, selects := requestSelects (s.profile r.device) r } }))
    ∧ (stuck (s.queue .A) → stuck (s.queue .B) → exec .busGrant s = .next s)

/-- Which waiting request a tracker's state and stack allow, while the tracker wants no job and no job for its device
is in progress: the table of R98, with R83 and R99. -/
def Obligations.EligibleByTrackerState : Prop :=
  ∀ (s : State) (r : Request), s.eligible r = true ↔
    (s.tracker r.device).wantPoll = false ∧ (s.tracker r.device).wantSuspend = false
    ∧ (s.tracker r.device).wantResume = false ∧ (s.tracker r.device).wantReset = false
    ∧ (∀ j, s.job = some j → j.kind.device ≠ r.device)
    ∧ ((s.tracker r.device).state = .idle
      ∨ (s.tracker r.device).state = .suspended ∧ ∃ rec, (s.tracker r.device).stack = [rec]
        ∧ overlaps rec.start rec.length r.start r.count = false
        ∧ (r.work = .read
          ∨ rec.kind = .erase ∧ (s.profile r.device).programInEraseSuspend = true ∧ ∃ data, r.work = .program data))

/-- READ_JOB_COMPLETE outside a reset sequence: the READ is answered DONE with exactly as many bytes as it names, the
device's bytes first byte first, or, if its job was marked, ABORTED without data; the bus is free (R105, R106). Bytes
that the device does not drive, after those it drives, are free, each a value of its own (assumption 11). -/
def Obligations.ReadJobIsAnswered : Prop :=
  ∀ (s : State) (r : Request) (m : Bool) (sel : List SelectPeriod) (driven : List Byte), s.power ≠ .off →
    s.part = .operating → s.job = some { kind := .request r m, selects := sel } → r.work = .read →
    let free : State := { s with job := none, freeCount := s.freeCount + (r.count - driven.length) }
    (m = true → exec (.readJobComplete driven) s
      = .next (free.answer r.port (.response .read r.tag .aborted .absent) r.window r.device).close)
    ∧ (m = false → ∃ bytes : List Byte, bytes.length = r.count
      ∧ (∀ i, i < r.count → i < driven.length → bytes[i]? = driven[i]?)
      ∧ (∀ i, driven.length + i < r.count → bytes[driven.length + i]? = some (Config.busLineByte (s.freeCount + i)))
      ∧ exec (.readJobComplete driven) s
        = .next (free.answer r.port (.response .read r.tag .done (.bytes bytes)) r.window r.device).close)

/-- The answer to a translated request: the response takes the place of its reservation at the tail of the port's
queue, the use count and the reference count fall by 1; and when this brings the use count of a window with swap
pending to 0, the active bank flips, swap pending clears, and SWAP_DONE with the window's bit is raised on the manager
(R4, R26, R52, R132). -/
def Obligations.AnswerLowersCountsAndSwaps : Prop :=
  ∀ (s : State) (p : Port) (m : Message) (w : WindowNo) (d : Device),
    let base := fun (v : Window) => ({ s with
      outbound := s.outbound.set p { s.out p with
        queue := (s.out p).queue ++ [m], reservations := (s.out p).reservations - 1 }
      trackers := s.trackers.set d { s.tracker d with refCount := (s.tracker d).refCount - 1 }
      windows := s.windows.set w v } : State)
    ((s.window w).useCount = 1 → (s.window w).swapPending = true →
      s.answer p m w d = (base { s.window w with
        useCount := 0
        swapPending := false
        activeBank := match (s.window w).activeBank with | .bank0 => .bank1 | .bank1 => .bank0 }).raise
          s.manager (.swapDone (1#16 <<< w.val)))
    ∧ ((s.window w).useCount ≠ 1 ∨ (s.window w).swapPending = false →
      s.answer p m w d = base { s.window w with useCount := (s.window w).useCount - 1 })

/-- START_JOB_COMPLETE outside a reset sequence: the request becomes an op record with busy time 0 and the time limit
of its kind, pushed RUNNING on an IDLE or SUSPENDED tracker with the poll timer armed; if its job was marked, ended
ABORTED, with the tracker going into recovery; on a RECOVERING tracker, ended LOST, or ABORTED if marked (R50, R54,
R62, R83, R174). -/
def Obligations.StartJobPushesRecord : Prop :=
  ∀ (s : State) (r : Request) (m : Bool) (sel : List SelectPeriod) (kind : OpKind) (unit : Option Nat) (limit : Nat),
    s.power ≠ .off → s.part = .operating → s.job = some { kind := .request r m, selects := sel } →
    ((∃ data, r.work = .program data) ∧ kind = .program ∧ unit = none
        ∧ limit = (s.profile r.device).programLimit
      ∨ ∃ (n : Nat) (u : EraseUnit), r.work = .erase (n + 1) ∧ (s.profile r.device).eraseUnits[n]? = some u
        ∧ kind = .erase ∧ unit = some (n + 1) ∧ limit = u.limit) →
    let t := s.tracker r.device
    let made := fun (st : Option EndStatus) => ({
      port := r.port, tag := r.tag, kind := kind, start := r.start, length := r.count, unit := unit,
      window := r.window, limit := limit, state := .running, busyTime := 0, suspendCount := 0, abortMark := m,
      deadlineDue := false, endStatus := st } : OpRecord)
    let ends := fun (t' : Tracker) => Host.Outcome.next (φ := Fault) (ρ := Refusal)
      (State.reconsider { s with job := none, trackers := s.trackers.set r.device t' })
    (t.state = .idle ∨ t.state = .suspended →
      (m = false → exec .startJobComplete s = ends { t with
        state := .running
        stack := made none :: t.stack
        pollTimer := some (s.profile r.device).pollInterval })
      ∧ (m = true → exec .startJobComplete s = ends { t with
        state := .recovering
        stack := made (some .aborted)
          :: t.stack.map fun x => { x with deadlineDue := false, endStatus := some (x.endStatus.getD .lost) }
        wantPoll := false
        wantSuspend := false
        wantResume := false
        wantReset := true
        pollTimer := none
        suspendSettle := none
        cause := some .aborted }))
    ∧ (t.state = .recovering → exec .startJobComplete s = ends { t with
        stack := made (some (if m then .aborted else .lost)) :: t.stack })

/-- POLL_COMPLETE that reports the end of the top record: RUNNING and the busy bit clear, or SUSPENDING with the
suspended bit and the busy bit clear. The record is answered DONE, or DEVICE_ERROR where the profile's error bit is
set, and popped; the consecutive-timeout count is 0, the timers are disarmed, and the tracker is IDLE or, above a
suspended ERASE, SUSPENDED (R57, R58, R77, R78). -/
def Obligations.PollEndsRecord : Prop :=
  ∀ (s : State) (d : Device) (sel : List SelectPeriod) (b : Byte) (top : OpRecord) (rest : List OpRecord)
    (st : EndStatus), s.power ≠ .off → s.part = .operating →
    s.job = some { kind := .tracker .poll d, selects := sel } →
    (s.tracker d).stack = top :: rest → top.endStatus = none →
    ((s.tracker d).state = .running
      ∨ (s.tracker d).state = .suspending ∧ ∀ i, (s.profile d).suspendedBit = some i → b.getLsbD i = false) →
    b.getLsbD (s.profile d).busyBit = false →
    ((∃ i, (s.profile d).errorBit = some i ∧ b.getLsbD i = true) ∧ st = .deviceError
      ∨ (∀ i, (s.profile d).errorBit = some i → b.getLsbD i = false) ∧ st = .done) →
    let s₁ := State.answer { s with job := none } top.port
      (.response (match top.kind with | .program => .program | .erase => .erase) top.tag
        (match st with | .deviceError => .deviceError | _ => .done) .absent) top.window d
    exec (.pollComplete (some b)) s
      = .next (State.close { s₁ with trackers := s₁.trackers.set d { s₁.tracker d with
          state := if rest = [] then .idle else .suspended
          stack := rest
          wantPoll := false
          pollTimer := none
          suspendSettle := none
          timeouts := 0 } })

/-- POLL_COMPLETE that leaves the top record on the stack: still busy, the poll timer is armed; SUSPENDING with the
suspended bit set, the suspension has taken hold, the suspend count rises by 1 and both timers are disarmed; a
completion for a tracker that no longer awaits it is discarded; and a byte that no device drives is taken like any
other (R38, R57, R59, R77; the undriven byte is free, assumption 11). -/
def Obligations.PollGoesOnOrHolds : Prop :=
  ∀ (s : State) (d : Device) (sel : List SelectPeriod) (b : Byte), s.power ≠ .off → s.part = .operating →
    s.job = some { kind := .tracker .poll d, selects := sel } →
    let t := s.tracker d
    let ends := fun (t' : Tracker) => Host.Outcome.next (φ := Fault) (ρ := Refusal)
      (State.close { s with job := none, trackers := s.trackers.set d t' })
    (∀ top rest, t.stack = top :: rest → top.endStatus = none →
      (t.state = .running → b.getLsbD (s.profile d).busyBit = true →
        exec (.pollComplete (some b)) s = ends { t with pollTimer := some (s.profile d).pollInterval })
      ∧ (t.state = .suspending → (∀ i, (s.profile d).suspendedBit = some i → b.getLsbD i = false) →
        b.getLsbD (s.profile d).busyBit = true →
        exec (.pollComplete (some b)) s = ends { t with pollTimer := some (s.profile d).pollInterval })
      ∧ (∀ i, t.state = .suspending → (s.profile d).suspendedBit = some i → b.getLsbD i = true →
        exec (.pollComplete (some b)) s = ends { t with
          state := .suspended
          stack :=
            { top with state := .suspended, suspendCount := top.suspendCount + 1, deadlineDue := false } :: rest
          wantPoll := false
          pollTimer := none
          suspendSettle := none }))
    ∧ (t.state = .recovering → exec (.pollComplete (some b)) s = ends t)
    ∧ exec (.pollComplete none) s
      = exec (.pollComplete (some (Config.busLineByte s.freeCount))) { s with freeCount := s.freeCount + 1 }

/-- SUSPEND_COMPLETE on a RUNNING tracker: the record and the tracker SUSPENDING, the suspend settle timer armed, a
wanted POLL withdrawn and the poll timer armed afresh. RESUME_COMPLETE on a SUSPENDED tracker: the record and the
tracker RUNNING, the poll timer armed. Either, on a RECOVERING tracker, is discarded (R59, R76, R88). -/
def Obligations.SuspendAndResumeComplete : Prop :=
  ∀ (s : State) (d : Device) (sel : List SelectPeriod), s.power ≠ .off → s.part = .operating →
    let t := s.tracker d
    let ends := fun (t' : Tracker) => Host.Outcome.next (φ := Fault) (ρ := Refusal)
      (State.reconsider { s with job := none, trackers := s.trackers.set d t' })
    (s.job = some { kind := .tracker .suspend d, selects := sel } →
      (∀ rec, t.state = .running → t.stack = [rec] → rec.endStatus = none →
        exec .suspendComplete s = ends { t with
          state := .suspending
          stack := [{ rec with state := .suspending }]
          wantPoll := false
          suspendSettle := some (s.profile d).settleLimit
          pollTimer := some (s.profile d).pollInterval })
      ∧ (t.state = .recovering → exec .suspendComplete s = ends t))
    ∧ (s.job = some { kind := .tracker .resume d, selects := sel } →
      (∀ rec, t.state = .suspended → t.stack = [rec] →
        exec .resumeComplete s = ends { t with
          state := .running
          stack := [{ rec with state := .running }]
          pollTimer := some (s.profile d).pollInterval })
      ∧ (t.state = .recovering → exec .resumeComplete s = ends t))

/-- RESET_JOB_COMPLETE: every record of the stack is answered with its end status, top record first, and the reset
settle timer is armed; within a reset sequence the stack is empty and the timer is armed (R63, R181). -/
def Obligations.ResetJobAnswersRecords : Prop :=
  ∀ (s : State) (d : Device) (sel : List SelectPeriod), s.power ≠ .off →
    s.job = some { kind := .tracker .reset d, selects := sel } →
    (s.part = .operating ∨ (s.tracker d).wantReset = false) →
    (∀ rec ∈ (s.tracker d).stack, rec.endStatus ≠ none) →
    let status := fun (e : Option EndStatus) =>
      match e with
      | some .deviceError => Status.deviceError
      | some .timeout => .timeout
      | some .aborted => .aborted
      | some .lost => .lost
      | _ => .done
    let s₁ := (s.tracker d).stack.foldl (fun (u : State) rec => u.answer rec.port
        (.response (match rec.kind with | .program => .program | .erase => .erase) rec.tag (status rec.endStatus)
          .absent) rec.window d) { s with job := none }
    exec .resetJobComplete s
      = .next (State.close { s₁ with trackers := s₁.trackers.set d { s₁.tracker d with
          stack := [], resetSettle := some (s.profile d).resetSettle } })

/-- Within a reset sequence the completion of the job that was in progress at its beginning hands on nothing: the bus
is free and no response is queued. A RESET completion of a recovery that the sequence took over is discarded too
(assumption 19). The completion of a start job makes an IDLE tracker RECOVERING and want a RESET (R47, R107, R179). -/
def Obligations.CompletionsWithinResetDiscarded : Prop :=
  ∀ (s : State) (sel : List SelectPeriod), s.power = .on → s.part = .resetting →
    let freed : State := { s with job := none }
    (∀ r m driven, s.job = some { kind := .request r m, selects := sel } → r.work = .read →
      exec (.readJobComplete driven) s
        = .next { freed with freeCount := s.freeCount + (r.count - driven.length) })
    ∧ (∀ r m, s.job = some { kind := .request r m, selects := sel } → r.work ≠ .read →
      ((s.tracker r.device).state = .idle → exec .startJobComplete s = .next { freed with
        trackers := s.trackers.set r.device
          { s.tracker r.device with state := .recovering, wantReset := true } })
      ∧ ((s.tracker r.device).state = .recovering → exec .startJobComplete s = .next freed))
    ∧ ∀ d, (∀ b, s.job = some { kind := .tracker .poll d, selects := sel } →
        exec (.pollComplete (some b)) s = .next freed)
      ∧ (s.job = some { kind := .tracker .poll d, selects := sel } →
        exec (.pollComplete none) s = .next { freed with freeCount := s.freeCount + 1 })
      ∧ (s.job = some { kind := .tracker .suspend d, selects := sel } → exec .suspendComplete s = .next freed)
      ∧ (s.job = some { kind := .tracker .resume d, selects := sel } → exec .resumeComplete s = .next freed)
      ∧ (s.job = some { kind := .tracker .reset d, selects := sel } → (s.tracker d).wantReset = true →
        exec .resetJobComplete s = .next freed)

/-! ## Time (R55, R56, R60, R64, R66, R79, R193) -/

/-- A tick lowers each armed timer by 1 and raises the busy time of each record that is RUNNING or SUSPENDING and not
ending; the tick that would bring it to its limit makes the deadline due (R55, R193; how timers and deadlines are held is
assumption 10). The 64th CLK period gives the tick, any
other raises the count by 1; and TIME_BASE_TICK is the CLK periods that remain to it (R193, assumption 9).
POLL_TIMER_EXPIRY of a timer that has run down: the tracker wants a POLL, and the timer is disarmed (R56). A timer
that is disarmed or still counts does not expire (assumption 2). -/
def Obligations.TimersCountAndExpire : Prop :=
  ((∀ s : State, s.power ≠ .off → exec .timeBaseTick s = .next { s with
    timeBase := 0
    trackers := s.trackers.map fun t => { t with
      stack := t.stack.map fun rec =>
        if rec.endStatus = none ∧ rec.state ≠ .suspended then
          if rec.busyTime + 1 < rec.limit then { rec with busyTime := rec.busyTime + 1 }
          else { rec with deadlineDue := true }
        else rec
      pollTimer := t.pollTimer.map (· - 1)
      suspendSettle := t.suspendSettle.map (· - 1)
      resetSettle := t.resetSettle.map (· - 1) } })
  ∧ (∀ s : State, s.power ≠ .off → s.timeBase ≠ 63 →
    exec .clkPeriod s = .next { s with timeBase := s.timeBase + 1 })
  ∧ (∀ s : State, s.timeBase = 63 → exec .clkPeriod s = exec .timeBaseTick s)
  ∧ ∀ s : State, runAll (List.replicate (64 - s.timeBase.val) .clkPeriod) s = exec .timeBaseTick s)
  ∧ ∀ (s : State) (d : Device), s.power ≠ .off →
    ((s.tracker d).pollTimer = some 0 → exec (.pollTimerExpiry d) s = .next { s with
      trackers := s.trackers.set d { s.tracker d with pollTimer := none, wantPoll := true } })
    ∧ ((s.tracker d).pollTimer ≠ some 0 → exec (.pollTimerExpiry d) s = .next s)

/-- DEADLINE_EXPIRY of a top record whose deadline is due, and SUSPEND_SETTLE_EXPIRY of a SUSPENDING record, each with
the record not ending: the record ends TIMEOUT, every other record of the stack LOST, the consecutive-timeout count rises
by 1, and the tracker enters RECOVERING with cause TIMEOUT; no response is queued. At the deadline the record's busy time
is its limit (R53, R55, R60, R62, R79). Before that neither happens (assumption 2). -/
def Obligations.TimeoutsEnterRecovering : Prop :=
  ∀ (s : State) (d : Device) (top : OpRecord) (rest : List OpRecord), s.power ≠ .off →
    (s.tracker d).stack = top :: rest → top.endStatus = none →
    let t := s.tracker d
    let ends := fun (busy : Nat) => Host.Outcome.next (φ := Fault) (ρ := Refusal) (State.reconsider { s with
      trackers := s.trackers.set d { t with
        state := .recovering
        stack := { top with busyTime := busy, deadlineDue := false, endStatus := some .timeout }
          :: rest.map fun x => { x with deadlineDue := false, endStatus := some (x.endStatus.getD .lost) }
        wantPoll := false
        wantSuspend := false
        wantResume := false
        wantReset := true
        pollTimer := none
        suspendSettle := none
        cause := some .timeout
        timeouts := t.timeouts + 1 } })
    ((t.state = .running ∨ t.state = .suspending) → top.state ≠ .suspended →
      (top.deadlineDue = true → exec (.deadlineExpiry d) s = ends top.limit)
      ∧ (top.deadlineDue = false → exec (.deadlineExpiry d) s = .next s))
    ∧ (t.state = .suspending →
      (t.suspendSettle = some 0 → exec (.suspendSettleExpiry d) s = ends top.busyTime)
      ∧ (t.suspendSettle ≠ some 0 → exec (.suspendSettleExpiry d) s = .next s))

/-- RESET_SETTLE_EXPIRY that ends a recovery in IDLE: a cause other than TIMEOUT, or a consecutive-timeout count other
than 3; the cause returns to none, and no job is wanted (R64, R181). -/
def Obligations.RecoveryEndsIdle : Prop :=
  ∀ (s : State) (d : Device), s.power ≠ .off → (s.tracker d).state = .recovering →
    (s.tracker d).resetSettle = some 0 →
    ((s.tracker d).cause ≠ some .timeout ∨ (s.tracker d).timeouts ≠ 3) →
      exec (.resetSettleExpiry d) s = .next (State.reconsider { s with
        trackers := s.trackers.set d { s.tracker d with
          state := .idle
          wantPoll := false
          wantSuspend := false
          wantResume := false
          wantReset := false
          pollTimer := none
          suspendSettle := none
          resetSettle := none
          cause := none } })

/-- RESET_SETTLE_EXPIRY after the third consecutive timeout, with cause TIMEOUT: the tracker is FAULTED, every waiting
request for its device leaves its queue and is answered DEVICE_FAULT, oldest first within a port, the others keep
their order, and DEVICE_FAULT with the device's bit is raised on the manager (R64, R66). Port A's answers come before
port B's (assumption 22). -/
def Obligations.QuarantineDrainsQueues : Prop :=
  ∀ (s : State) (d : Device), s.power ≠ .off → (s.tracker d).state = .recovering →
    (s.tracker d).resetSettle = some 0 → (s.tracker d).cause = some .timeout → (s.tracker d).timeouts = 3 →
    let faulted : State := { s with
      trackers := s.trackers.set d { s.tracker d with
        state := .faulted
        wantPoll := false
        wantSuspend := false
        wantResume := false
        wantReset := false
        pollTimer := none
        suspendSettle := none
        resetSettle := none
        cause := none }
      queues :=
        { a := (s.queue .A).filter fun r => r.device != d
          b := (s.queue .B).filter fun r => r.device != d } }
    let drained := ((s.queue .A ++ s.queue .B).filter fun r => r.device == d).foldl
      (fun (u : State) r => u.answer r.port
        (.response (match r.work with | .read => .read | .program _ => .program | .erase _ => .erase) r.tag
          .deviceFault .absent) r.window r.device) faulted
    exec (.resetSettleExpiry d) s = .next (drained.raise s.manager (.deviceFault (1#16 <<< d.val))).close

/-! ## What closes an event (R74, R86, R87, R136, R138, R140) -/

/-- The wants for SUSPEND and RESUME after an event. SUSPEND is wanted exactly while the tracker is RUNNING with one
record that some waiting request may suspend (R73, R74), and its SUSPEND job is not itself in progress
(assumption 15). RESUME is wanted while the tracker is SUSPENDED with one record, once it was wanted, or when no job
for the device is in progress and no waiting request can use the suspended state (R86, R87). Nothing else changes. -/
def Obligations.WantsFollowTheQueues : Prop :=
  ∀ (s : State) (d : Device),
    let t := s.tracker d
    let t' := s.reconsider.tracker d
    let prof := s.profile d
    let leads := fun (r : Request) => r.device = d ∧ ∃ p pre post, s.queue p = pre ++ r :: post
      ∧ ∀ x ∈ pre, x.device ≠ d
    t' = { t with wantSuspend := t'.wantSuspend, wantResume := t'.wantResume }
    ∧ s.reconsider = { s with trackers := s.reconsider.trackers }
    ∧ (t'.wantSuspend = true ↔
      t.state = .running ∧ (∀ sel, s.job ≠ some { kind := .tracker .suspend d, selects := sel })
      ∧ ∃ rec r, t.stack = [rec] ∧ rec.state = .running ∧ rec.endStatus = none ∧ leads r
        ∧ (r.work = .read ∧ (rec.kind = .program ∧ prof.suspendProgramAllowed = true
              ∨ rec.kind = .erase ∧ prof.suspendEraseAllowed = true)
          ∨ (∃ data, r.work = .program data) ∧ rec.kind = .erase ∧ prof.suspendEraseAllowed = true
            ∧ prof.programInEraseSuspend = true)
        ∧ overlaps rec.start rec.length r.start r.count = false ∧ rec.suspendCount < prof.suspendLimit)
    ∧ (t'.wantResume = true ↔
      t.state = .suspended ∧ ∃ rec, t.stack = [rec]
        ∧ (t.wantResume = true
          ∨ (∀ j, s.job = some j → j.kind.device ≠ d)
            ∧ ∀ r, leads r →
              ¬ (overlaps rec.start rec.length r.start r.count = false
                ∧ (r.work = .read
                  ∨ (∃ data, r.work = .program data) ∧ rec.kind = .erase ∧ prof.programInEraseSuspend = true))))

/-- How notices are merged (R136) and how an event closes: each port's pending notices, in the order of R138, join the
tail of its queue while its sum is below 8 and the rest stay pending, the reservations are kept, and attention is
asserted exactly while the queue holds a message in OPERATING (R138, R140); besides, only the wants of the trackers
change. -/
def Obligations.CloseMovesNotices : Prop :=
  let waiting := fun (n : NoticeSet) => ([n.resetDone.map Notice.resetDone, n.deviceFault.map Notice.deviceFault,
    n.swapDone.map Notice.swapDone, n.managerChanged.map Notice.managerChanged,
    n.denial.map Notice.denial]).reduceOption
  (∀ (n : NoticeSet) (e m : Half) (p : Port) (k : Nat),
    n.raise (.resetDone e) = { n with resetDone := some e }
    ∧ n.raise (.deviceFault m) = { n with deviceFault := some ((n.deviceFault.getD 0) ||| m) }
    ∧ n.raise (.swapDone m) = { n with swapDone := some ((n.swapDone.getD 0) ||| m) }
    ∧ n.raise (.managerChanged p) = { n with managerChanged := some p }
    ∧ n.raise (.denial k) = { n with denial := some (min 255 (n.denial.getD 0 + k)) })
  ∧ ∀ (s : State) (p : Port),
    let o := s.out p
    let o' := s.close.out p
    let room := 8 - (o.queue.length + o.reservations)
    o'.queue = o.queue ++ ((waiting o.notices).take room).map Message.notice
    ∧ waiting o'.notices = (waiting o.notices).drop room
    ∧ o'.reservations = o.reservations
    ∧ (o'.attention = true ↔ o'.queue ≠ [] ∧ s.part = .operating)
    ∧ s.close = { s.reconsider with outbound := s.close.outbound }

/-! ## The laws, kept by every step -/

/-- The ledger is kept: a port's reservations, a window's use count and a device's reference count each count exactly
the unanswered requests, waiting, in a job, or on a stack (R4, R52, R104, R132, R186). -/
def Obligations.LedgerKept : Prop :=
  ∀ s t : State, LedgerLaw s → step s = .next t → LedgerLaw t

/-- The laws of the outbound units and links are kept: capacity 8, notices pending only while the sum is 8, attention,
the counts of a frame in progress, and the latched message at the head of its queue (R132, R138, R140, R143, R152). -/
def Obligations.OutboundLawsKept : Prop :=
  ∀ s t : State, LedgerLaw s → OutboundLaws s → step s = .next t → OutboundLaws t

/-- No port queue ever holds more than 4 requests, and no two outstanding requests of one port carry the same tag
(R117, R125). -/
def Obligations.TagsAndQueuesKept : Prop :=
  ∀ s t : State, LedgerLaw s → QueueCapacityLaw s → TagLaw s → step s = .next t →
    QueueCapacityLaw t ∧ TagLaw t

/-- The laws of the window table are kept: no overlap for a shared owner, the values of EMPTY and of ACTIVE windows,
swap pending only above use count 0 and, frozen, only on swap-open windows (R1, R2, R3, R5, R162). -/
def Obligations.WindowLawsKept : Prop :=
  ∀ s t : State, WindowLaws s → step s = .next t → WindowLaws t

/-- The laws of the trackers are kept: the shapes of the operation stack, the states in which jobs are wanted and
timers run, the suspend limit, the timeout count, busy times below their limits, quarantine, and what a job in progress finds on its device (R48,
R53, R66, R72, R83, R89, R90, R100). -/
def Obligations.TrackerLawsKept : Prop :=
  ∀ s t : State, TrackerLaws s → step s = .next t → TrackerLaws t

/-- Every law holds right after reset. -/
def Obligations.ResetMeetsTheLaws : Prop :=
  LedgerLaw State.reset ∧ OutboundLaws State.reset ∧ QueueCapacityLaw State.reset ∧ TagLaw State.reset
    ∧ WindowLaws State.reset ∧ TrackerLaws State.reset

/-- The active bank of a window changes only at a moment at which its use count is 0, and what WINDOW_WRITE writes
changes only while the use count is 0, before and after (R3, R4). -/
def Obligations.WindowsChangeOnlyUnused : Prop :=
  ∀ (c : Instr) (s t : State) (w : WindowNo), c.isPower = false → exec c s = .next t →
    ((t.window w).activeBank ≠ (s.window w).activeBank → (t.window w).useCount = 0)
    ∧ (¬ sameConfig (s.window w) (t.window w) → (s.window w).useCount = 0 ∧ (t.window w).useCount = 0)

/-- Once frozen, the part stays frozen until power goes or comes, and the profile table, the manager port and every
window field that WINDOW_WRITE writes keep their values, but for the active bank of a swap-open window (R163). -/
def Obligations.FrozenConfigurationKept : Prop :=
  ∀ (c : Instr) (s t : State), FreezeLaw s → s.frozen = true → c.isPower = false → exec c s = .next t →
    t.frozen = true ∧ t.profiles = s.profiles ∧ t.manager = s.manager
    ∧ ∀ w, sameConfig (s.window w) (t.window w)
      ∧ ((s.window w).swapOpen = false → (t.window w).activeBank = (s.window w).activeBank)

/-- Only a request of the manager port, in OPERATING, changes the manager port, the frozen flag, the profile table or
what WINDOW_WRITE writes of a window: no other command but power does (R158, R159). -/
def Obligations.OnlyTheManagerConfigures : Prop :=
  ∀ (c : Instr) (s t : State), c.isPower = false → exec c s = .next t →
    (t.manager ≠ s.manager ∨ t.frozen ≠ s.frozen ∨ t.profiles ≠ s.profiles
      ∨ ∃ w, ¬ sameConfig (s.window w) (t.window w)) →
    s.part = .operating
    ∧ ((∃ tag n r, c = .windowWrite s.manager tag n r) ∨ (∃ tag n r, c = .profileWrite s.manager tag n r)
      ∨ (∃ tag, c = .freeze s.manager tag) ∨ (∃ tag, c = .handover s.manager tag)
      ∨ ∃ x, c = .frameEnd s.manager x)

/-- The job in progress runs to its completion whatever else is taken, but for the reset pin and power: only its abort
mark can be set (R42, R47, R173, R174). -/
def Obligations.JobRunsToItsCompletion : Prop :=
  ∀ (c : Instr) (s t : State) (j : Job), s.job = some j → exec c s = .next t → c.isPower = false →
    c ≠ .resetPinAssert → (∀ l, c ≠ .readJobComplete l) → c ≠ .startJobComplete → (∀ b, c ≠ .pollComplete b) →
    c ≠ .suspendComplete → c ≠ .resumeComplete → c ≠ .resetJobComplete →
      ∃ j', t.job = some j' ∧ j'.selects = j.selects
        ∧ (j'.kind = j.kind ∨ ∃ r m, j.kind = .request r m ∧ j'.kind = .request r true)
end

