-- ==== Sys2Proof/Laws/State.lean ====
section
/-! SUPPORT. What each update of the state leaves: one lemma per field per update, true by rfl, and what a block
reads after it was written. -/

namespace Sys2Proof.Machine.State

variable (s : State)

/-! ## A block read after it was written -/

theorem window_setWindow (w n : WindowNo) (v : Window) :
    (s.setWindow n v).window w = if w = n then v else s.window w := by
  by_cases h : w = n
  · subst h; simp [window, setWindow]
  · have : n.val ≠ w.val := fun e => h (Fin.ext e.symm)
    simp [window, setWindow, h, this]

theorem profile_setProfile (d e : Device) (v : Profile) :
    (s.setProfile e v).profile d = if d = e then v else s.profile d := by
  by_cases h : d = e
  · subst h; simp [profile, setProfile]
  · have : e.val ≠ d.val := fun x => h (Fin.ext x.symm)
    simp [profile, setProfile, h, this]

theorem tracker_setTracker (d e : Device) (v : Tracker) :
    (s.setTracker e v).tracker d = if d = e then v else s.tracker d := by
  by_cases h : d = e
  · subst h; simp [tracker, setTracker]
  · have : e.val ≠ d.val := fun x => h (Fin.ext x.symm)
    simp [tracker, setTracker, h, this]

theorem out_setOut (q p : Port) (v : Outbound) : (s.setOut p v).out q = if q = p then v else s.out q :=
  PerPort.get_set _ _ _ _

theorem link_setLink (q p : Port) (v : Link) : (s.setLink p v).link q = if q = p then v else s.link q :=
  PerPort.get_set _ _ _ _

theorem queue_setQueue (q p : Port) (v : List Request) :
    (s.setQueue p v).queue q = if q = p then v else s.queue q :=
  PerPort.get_set _ _ _ _

@[simp] theorem window_setWindow_self (n : WindowNo) (v : Window) : (s.setWindow n v).window n = v := by
  simp [window_setWindow]

@[simp] theorem profile_setProfile_self (d : Device) (v : Profile) : (s.setProfile d v).profile d = v := by
  simp [profile_setProfile]

@[simp] theorem tracker_setTracker_self (d : Device) (v : Tracker) : (s.setTracker d v).tracker d = v := by
  simp [tracker_setTracker]

@[simp] theorem out_setOut_self (p : Port) (v : Outbound) : (s.setOut p v).out p = v := by simp [out_setOut]

@[simp] theorem link_setLink_self (p : Port) (v : Link) : (s.setLink p v).link p = v := by simp [link_setLink]

@[simp] theorem queue_setQueue_self (p : Port) (v : List Request) : (s.setQueue p v).queue p = v := by
  simp [queue_setQueue]

/-! ## What an update leaves alone -/

/-! setWindow -/

@[simp] theorem setWindow_pending (n : WindowNo) (v : Window) : (s.setWindow n v).pending = s.pending := rfl
@[simp] theorem setWindow_power (n : WindowNo) (v : Window) : (s.setWindow n v).power = s.power := rfl
@[simp] theorem setWindow_resetPin (n : WindowNo) (v : Window) : (s.setWindow n v).resetPin = s.resetPin := rfl
@[simp] theorem setWindow_part (n : WindowNo) (v : Window) : (s.setWindow n v).part = s.part := rfl
@[simp] theorem setWindow_clearStep (n : WindowNo) (v : Window) : (s.setWindow n v).clearStep = s.clearStep := rfl
@[simp] theorem setWindow_manager (n : WindowNo) (v : Window) : (s.setWindow n v).manager = s.manager := rfl
@[simp] theorem setWindow_frozen (n : WindowNo) (v : Window) : (s.setWindow n v).frozen = s.frozen := rfl
@[simp] theorem setWindow_epoch (n : WindowNo) (v : Window) : (s.setWindow n v).epoch = s.epoch := rfl
@[simp] theorem setWindow_denials (n : WindowNo) (v : Window) : (s.setWindow n v).denials = s.denials := rfl
@[simp] theorem setWindow_profiles (n : WindowNo) (v : Window) : (s.setWindow n v).profiles = s.profiles := rfl
@[simp] theorem setWindow_trackers (n : WindowNo) (v : Window) : (s.setWindow n v).trackers = s.trackers := rfl
@[simp] theorem setWindow_queues (n : WindowNo) (v : Window) : (s.setWindow n v).queues = s.queues := rfl
@[simp] theorem setWindow_lastGranted (n : WindowNo) (v : Window) :
    (s.setWindow n v).lastGranted = s.lastGranted := rfl
@[simp] theorem setWindow_job (n : WindowNo) (v : Window) : (s.setWindow n v).job = s.job := rfl
@[simp] theorem setWindow_outbound (n : WindowNo) (v : Window) : (s.setWindow n v).outbound = s.outbound := rfl
@[simp] theorem setWindow_links (n : WindowNo) (v : Window) : (s.setWindow n v).links = s.links := rfl
@[simp] theorem setWindow_timeBase (n : WindowNo) (v : Window) : (s.setWindow n v).timeBase = s.timeBase := rfl
@[simp] theorem setWindow_freeCount (n : WindowNo) (v : Window) : (s.setWindow n v).freeCount = s.freeCount := rfl
@[simp] theorem setWindow_profile (n : WindowNo) (v : Window) (d : Device) :
    (s.setWindow n v).profile d = s.profile d := rfl
@[simp] theorem setWindow_tracker (n : WindowNo) (v : Window) (d : Device) :
    (s.setWindow n v).tracker d = s.tracker d := rfl
@[simp] theorem setWindow_queue (n : WindowNo) (v : Window) (q : Port) :
    (s.setWindow n v).queue q = s.queue q := rfl
@[simp] theorem setWindow_out (n : WindowNo) (v : Window) (q : Port) : (s.setWindow n v).out q = s.out q := rfl
@[simp] theorem setWindow_link (n : WindowNo) (v : Window) (q : Port) : (s.setWindow n v).link q = s.link q := rfl

/-! setProfile -/

@[simp] theorem setProfile_pending (e : Device) (v : Profile) : (s.setProfile e v).pending = s.pending := rfl
@[simp] theorem setProfile_power (e : Device) (v : Profile) : (s.setProfile e v).power = s.power := rfl
@[simp] theorem setProfile_resetPin (e : Device) (v : Profile) : (s.setProfile e v).resetPin = s.resetPin := rfl
@[simp] theorem setProfile_part (e : Device) (v : Profile) : (s.setProfile e v).part = s.part := rfl
@[simp] theorem setProfile_clearStep (e : Device) (v : Profile) : (s.setProfile e v).clearStep = s.clearStep := rfl
@[simp] theorem setProfile_manager (e : Device) (v : Profile) : (s.setProfile e v).manager = s.manager := rfl
@[simp] theorem setProfile_frozen (e : Device) (v : Profile) : (s.setProfile e v).frozen = s.frozen := rfl
@[simp] theorem setProfile_epoch (e : Device) (v : Profile) : (s.setProfile e v).epoch = s.epoch := rfl
@[simp] theorem setProfile_denials (e : Device) (v : Profile) : (s.setProfile e v).denials = s.denials := rfl
@[simp] theorem setProfile_windows (e : Device) (v : Profile) : (s.setProfile e v).windows = s.windows := rfl
@[simp] theorem setProfile_trackers (e : Device) (v : Profile) : (s.setProfile e v).trackers = s.trackers := rfl
@[simp] theorem setProfile_queues (e : Device) (v : Profile) : (s.setProfile e v).queues = s.queues := rfl
@[simp] theorem setProfile_lastGranted (e : Device) (v : Profile) :
    (s.setProfile e v).lastGranted = s.lastGranted := rfl
@[simp] theorem setProfile_job (e : Device) (v : Profile) : (s.setProfile e v).job = s.job := rfl
@[simp] theorem setProfile_outbound (e : Device) (v : Profile) : (s.setProfile e v).outbound = s.outbound := rfl
@[simp] theorem setProfile_links (e : Device) (v : Profile) : (s.setProfile e v).links = s.links := rfl
@[simp] theorem setProfile_timeBase (e : Device) (v : Profile) : (s.setProfile e v).timeBase = s.timeBase := rfl
@[simp] theorem setProfile_freeCount (e : Device) (v : Profile) : (s.setProfile e v).freeCount = s.freeCount := rfl
@[simp] theorem setProfile_window (e : Device) (v : Profile) (w : WindowNo) :
    (s.setProfile e v).window w = s.window w := rfl
@[simp] theorem setProfile_tracker (e : Device) (v : Profile) (d : Device) :
    (s.setProfile e v).tracker d = s.tracker d := rfl
@[simp] theorem setProfile_queue (e : Device) (v : Profile) (q : Port) :
    (s.setProfile e v).queue q = s.queue q := rfl
@[simp] theorem setProfile_out (e : Device) (v : Profile) (q : Port) : (s.setProfile e v).out q = s.out q := rfl
@[simp] theorem setProfile_link (e : Device) (v : Profile) (q : Port) : (s.setProfile e v).link q = s.link q := rfl

/-! setTracker -/

@[simp] theorem setTracker_pending (e : Device) (v : Tracker) : (s.setTracker e v).pending = s.pending := rfl
@[simp] theorem setTracker_power (e : Device) (v : Tracker) : (s.setTracker e v).power = s.power := rfl
@[simp] theorem setTracker_resetPin (e : Device) (v : Tracker) : (s.setTracker e v).resetPin = s.resetPin := rfl
@[simp] theorem setTracker_part (e : Device) (v : Tracker) : (s.setTracker e v).part = s.part := rfl
@[simp] theorem setTracker_clearStep (e : Device) (v : Tracker) : (s.setTracker e v).clearStep = s.clearStep := rfl
@[simp] theorem setTracker_manager (e : Device) (v : Tracker) : (s.setTracker e v).manager = s.manager := rfl
@[simp] theorem setTracker_frozen (e : Device) (v : Tracker) : (s.setTracker e v).frozen = s.frozen := rfl
@[simp] theorem setTracker_epoch (e : Device) (v : Tracker) : (s.setTracker e v).epoch = s.epoch := rfl
@[simp] theorem setTracker_denials (e : Device) (v : Tracker) : (s.setTracker e v).denials = s.denials := rfl
@[simp] theorem setTracker_windows (e : Device) (v : Tracker) : (s.setTracker e v).windows = s.windows := rfl
@[simp] theorem setTracker_profiles (e : Device) (v : Tracker) : (s.setTracker e v).profiles = s.profiles := rfl
@[simp] theorem setTracker_queues (e : Device) (v : Tracker) : (s.setTracker e v).queues = s.queues := rfl
@[simp] theorem setTracker_lastGranted (e : Device) (v : Tracker) :
    (s.setTracker e v).lastGranted = s.lastGranted := rfl
@[simp] theorem setTracker_job (e : Device) (v : Tracker) : (s.setTracker e v).job = s.job := rfl
@[simp] theorem setTracker_outbound (e : Device) (v : Tracker) : (s.setTracker e v).outbound = s.outbound := rfl
@[simp] theorem setTracker_links (e : Device) (v : Tracker) : (s.setTracker e v).links = s.links := rfl
@[simp] theorem setTracker_timeBase (e : Device) (v : Tracker) : (s.setTracker e v).timeBase = s.timeBase := rfl
@[simp] theorem setTracker_freeCount (e : Device) (v : Tracker) : (s.setTracker e v).freeCount = s.freeCount := rfl
@[simp] theorem setTracker_window (e : Device) (v : Tracker) (w : WindowNo) :
    (s.setTracker e v).window w = s.window w := rfl
@[simp] theorem setTracker_profile (e : Device) (v : Tracker) (d : Device) :
    (s.setTracker e v).profile d = s.profile d := rfl
@[simp] theorem setTracker_queue (e : Device) (v : Tracker) (q : Port) :
    (s.setTracker e v).queue q = s.queue q := rfl
@[simp] theorem setTracker_out (e : Device) (v : Tracker) (q : Port) : (s.setTracker e v).out q = s.out q := rfl
@[simp] theorem setTracker_link (e : Device) (v : Tracker) (q : Port) : (s.setTracker e v).link q = s.link q := rfl

/-! setOut -/

@[simp] theorem setOut_pending (p : Port) (v : Outbound) : (s.setOut p v).pending = s.pending := rfl
@[simp] theorem setOut_power (p : Port) (v : Outbound) : (s.setOut p v).power = s.power := rfl
@[simp] theorem setOut_resetPin (p : Port) (v : Outbound) : (s.setOut p v).resetPin = s.resetPin := rfl
@[simp] theorem setOut_part (p : Port) (v : Outbound) : (s.setOut p v).part = s.part := rfl
@[simp] theorem setOut_clearStep (p : Port) (v : Outbound) : (s.setOut p v).clearStep = s.clearStep := rfl
@[simp] theorem setOut_manager (p : Port) (v : Outbound) : (s.setOut p v).manager = s.manager := rfl
@[simp] theorem setOut_frozen (p : Port) (v : Outbound) : (s.setOut p v).frozen = s.frozen := rfl
@[simp] theorem setOut_epoch (p : Port) (v : Outbound) : (s.setOut p v).epoch = s.epoch := rfl
@[simp] theorem setOut_denials (p : Port) (v : Outbound) : (s.setOut p v).denials = s.denials := rfl
@[simp] theorem setOut_windows (p : Port) (v : Outbound) : (s.setOut p v).windows = s.windows := rfl
@[simp] theorem setOut_profiles (p : Port) (v : Outbound) : (s.setOut p v).profiles = s.profiles := rfl
@[simp] theorem setOut_trackers (p : Port) (v : Outbound) : (s.setOut p v).trackers = s.trackers := rfl
@[simp] theorem setOut_queues (p : Port) (v : Outbound) : (s.setOut p v).queues = s.queues := rfl
@[simp] theorem setOut_lastGranted (p : Port) (v : Outbound) : (s.setOut p v).lastGranted = s.lastGranted := rfl
@[simp] theorem setOut_job (p : Port) (v : Outbound) : (s.setOut p v).job = s.job := rfl
@[simp] theorem setOut_links (p : Port) (v : Outbound) : (s.setOut p v).links = s.links := rfl
@[simp] theorem setOut_timeBase (p : Port) (v : Outbound) : (s.setOut p v).timeBase = s.timeBase := rfl
@[simp] theorem setOut_freeCount (p : Port) (v : Outbound) : (s.setOut p v).freeCount = s.freeCount := rfl
@[simp] theorem setOut_window (p : Port) (v : Outbound) (w : WindowNo) : (s.setOut p v).window w = s.window w := rfl
@[simp] theorem setOut_profile (p : Port) (v : Outbound) (d : Device) :
    (s.setOut p v).profile d = s.profile d := rfl
@[simp] theorem setOut_tracker (p : Port) (v : Outbound) (d : Device) :
    (s.setOut p v).tracker d = s.tracker d := rfl
@[simp] theorem setOut_queue (p : Port) (v : Outbound) (q : Port) : (s.setOut p v).queue q = s.queue q := rfl
@[simp] theorem setOut_link (p : Port) (v : Outbound) (q : Port) : (s.setOut p v).link q = s.link q := rfl

/-! setLink -/

@[simp] theorem setLink_pending (p : Port) (v : Link) : (s.setLink p v).pending = s.pending := rfl
@[simp] theorem setLink_power (p : Port) (v : Link) : (s.setLink p v).power = s.power := rfl
@[simp] theorem setLink_resetPin (p : Port) (v : Link) : (s.setLink p v).resetPin = s.resetPin := rfl
@[simp] theorem setLink_part (p : Port) (v : Link) : (s.setLink p v).part = s.part := rfl
@[simp] theorem setLink_clearStep (p : Port) (v : Link) : (s.setLink p v).clearStep = s.clearStep := rfl
@[simp] theorem setLink_manager (p : Port) (v : Link) : (s.setLink p v).manager = s.manager := rfl
@[simp] theorem setLink_frozen (p : Port) (v : Link) : (s.setLink p v).frozen = s.frozen := rfl
@[simp] theorem setLink_epoch (p : Port) (v : Link) : (s.setLink p v).epoch = s.epoch := rfl
@[simp] theorem setLink_denials (p : Port) (v : Link) : (s.setLink p v).denials = s.denials := rfl
@[simp] theorem setLink_windows (p : Port) (v : Link) : (s.setLink p v).windows = s.windows := rfl
@[simp] theorem setLink_profiles (p : Port) (v : Link) : (s.setLink p v).profiles = s.profiles := rfl
@[simp] theorem setLink_trackers (p : Port) (v : Link) : (s.setLink p v).trackers = s.trackers := rfl
@[simp] theorem setLink_queues (p : Port) (v : Link) : (s.setLink p v).queues = s.queues := rfl
@[simp] theorem setLink_lastGranted (p : Port) (v : Link) : (s.setLink p v).lastGranted = s.lastGranted := rfl
@[simp] theorem setLink_job (p : Port) (v : Link) : (s.setLink p v).job = s.job := rfl
@[simp] theorem setLink_outbound (p : Port) (v : Link) : (s.setLink p v).outbound = s.outbound := rfl
@[simp] theorem setLink_timeBase (p : Port) (v : Link) : (s.setLink p v).timeBase = s.timeBase := rfl
@[simp] theorem setLink_freeCount (p : Port) (v : Link) : (s.setLink p v).freeCount = s.freeCount := rfl
@[simp] theorem setLink_window (p : Port) (v : Link) (w : WindowNo) : (s.setLink p v).window w = s.window w := rfl
@[simp] theorem setLink_profile (p : Port) (v : Link) (d : Device) : (s.setLink p v).profile d = s.profile d := rfl
@[simp] theorem setLink_tracker (p : Port) (v : Link) (d : Device) : (s.setLink p v).tracker d = s.tracker d := rfl
@[simp] theorem setLink_queue (p : Port) (v : Link) (q : Port) : (s.setLink p v).queue q = s.queue q := rfl
@[simp] theorem setLink_out (p : Port) (v : Link) (q : Port) : (s.setLink p v).out q = s.out q := rfl

/-! setQueue -/

@[simp] theorem setQueue_pending (p : Port) (v : List Request) : (s.setQueue p v).pending = s.pending := rfl
@[simp] theorem setQueue_power (p : Port) (v : List Request) : (s.setQueue p v).power = s.power := rfl
@[simp] theorem setQueue_resetPin (p : Port) (v : List Request) : (s.setQueue p v).resetPin = s.resetPin := rfl
@[simp] theorem setQueue_part (p : Port) (v : List Request) : (s.setQueue p v).part = s.part := rfl
@[simp] theorem setQueue_clearStep (p : Port) (v : List Request) : (s.setQueue p v).clearStep = s.clearStep := rfl
@[simp] theorem setQueue_manager (p : Port) (v : List Request) : (s.setQueue p v).manager = s.manager := rfl
@[simp] theorem setQueue_frozen (p : Port) (v : List Request) : (s.setQueue p v).frozen = s.frozen := rfl
@[simp] theorem setQueue_epoch (p : Port) (v : List Request) : (s.setQueue p v).epoch = s.epoch := rfl
@[simp] theorem setQueue_denials (p : Port) (v : List Request) : (s.setQueue p v).denials = s.denials := rfl
@[simp] theorem setQueue_windows (p : Port) (v : List Request) : (s.setQueue p v).windows = s.windows := rfl
@[simp] theorem setQueue_profiles (p : Port) (v : List Request) : (s.setQueue p v).profiles = s.profiles := rfl
@[simp] theorem setQueue_trackers (p : Port) (v : List Request) : (s.setQueue p v).trackers = s.trackers := rfl
@[simp] theorem setQueue_lastGranted (p : Port) (v : List Request) :
    (s.setQueue p v).lastGranted = s.lastGranted := rfl
@[simp] theorem setQueue_job (p : Port) (v : List Request) : (s.setQueue p v).job = s.job := rfl
@[simp] theorem setQueue_outbound (p : Port) (v : List Request) : (s.setQueue p v).outbound = s.outbound := rfl
@[simp] theorem setQueue_links (p : Port) (v : List Request) : (s.setQueue p v).links = s.links := rfl
@[simp] theorem setQueue_timeBase (p : Port) (v : List Request) : (s.setQueue p v).timeBase = s.timeBase := rfl
@[simp] theorem setQueue_freeCount (p : Port) (v : List Request) : (s.setQueue p v).freeCount = s.freeCount := rfl
@[simp] theorem setQueue_window (p : Port) (v : List Request) (w : WindowNo) :
    (s.setQueue p v).window w = s.window w := rfl
@[simp] theorem setQueue_profile (p : Port) (v : List Request) (d : Device) :
    (s.setQueue p v).profile d = s.profile d := rfl
@[simp] theorem setQueue_tracker (p : Port) (v : List Request) (d : Device) :
    (s.setQueue p v).tracker d = s.tracker d := rfl
@[simp] theorem setQueue_out (p : Port) (v : List Request) (q : Port) : (s.setQueue p v).out q = s.out q := rfl
@[simp] theorem setQueue_link (p : Port) (v : List Request) (q : Port) : (s.setQueue p v).link q = s.link q := rfl

/-! setJob -/

@[simp] theorem setJob_pending (j : Option Job) : (s.setJob j).pending = s.pending := rfl
@[simp] theorem setJob_power (j : Option Job) : (s.setJob j).power = s.power := rfl
@[simp] theorem setJob_resetPin (j : Option Job) : (s.setJob j).resetPin = s.resetPin := rfl
@[simp] theorem setJob_part (j : Option Job) : (s.setJob j).part = s.part := rfl
@[simp] theorem setJob_clearStep (j : Option Job) : (s.setJob j).clearStep = s.clearStep := rfl
@[simp] theorem setJob_manager (j : Option Job) : (s.setJob j).manager = s.manager := rfl
@[simp] theorem setJob_frozen (j : Option Job) : (s.setJob j).frozen = s.frozen := rfl
@[simp] theorem setJob_epoch (j : Option Job) : (s.setJob j).epoch = s.epoch := rfl
@[simp] theorem setJob_denials (j : Option Job) : (s.setJob j).denials = s.denials := rfl
@[simp] theorem setJob_windows (j : Option Job) : (s.setJob j).windows = s.windows := rfl
@[simp] theorem setJob_profiles (j : Option Job) : (s.setJob j).profiles = s.profiles := rfl
@[simp] theorem setJob_trackers (j : Option Job) : (s.setJob j).trackers = s.trackers := rfl
@[simp] theorem setJob_queues (j : Option Job) : (s.setJob j).queues = s.queues := rfl
@[simp] theorem setJob_lastGranted (j : Option Job) : (s.setJob j).lastGranted = s.lastGranted := rfl
@[simp] theorem setJob_outbound (j : Option Job) : (s.setJob j).outbound = s.outbound := rfl
@[simp] theorem setJob_links (j : Option Job) : (s.setJob j).links = s.links := rfl
@[simp] theorem setJob_timeBase (j : Option Job) : (s.setJob j).timeBase = s.timeBase := rfl
@[simp] theorem setJob_freeCount (j : Option Job) : (s.setJob j).freeCount = s.freeCount := rfl
@[simp] theorem setJob_window (j : Option Job) (w : WindowNo) : (s.setJob j).window w = s.window w := rfl
@[simp] theorem setJob_profile (j : Option Job) (d : Device) : (s.setJob j).profile d = s.profile d := rfl
@[simp] theorem setJob_tracker (j : Option Job) (d : Device) : (s.setJob j).tracker d = s.tracker d := rfl
@[simp] theorem setJob_queue (j : Option Job) (q : Port) : (s.setJob j).queue q = s.queue q := rfl
@[simp] theorem setJob_out (j : Option Job) (q : Port) : (s.setJob j).out q = s.out q := rfl
@[simp] theorem setJob_link (j : Option Job) (q : Port) : (s.setJob j).link q = s.link q := rfl

/-! respond -/

@[simp] theorem respond_pending (p : Port) (m : Message) : (s.respond p m).pending = s.pending := rfl
@[simp] theorem respond_power (p : Port) (m : Message) : (s.respond p m).power = s.power := rfl
@[simp] theorem respond_resetPin (p : Port) (m : Message) : (s.respond p m).resetPin = s.resetPin := rfl
@[simp] theorem respond_part (p : Port) (m : Message) : (s.respond p m).part = s.part := rfl
@[simp] theorem respond_clearStep (p : Port) (m : Message) : (s.respond p m).clearStep = s.clearStep := rfl
@[simp] theorem respond_manager (p : Port) (m : Message) : (s.respond p m).manager = s.manager := rfl
@[simp] theorem respond_frozen (p : Port) (m : Message) : (s.respond p m).frozen = s.frozen := rfl
@[simp] theorem respond_epoch (p : Port) (m : Message) : (s.respond p m).epoch = s.epoch := rfl
@[simp] theorem respond_denials (p : Port) (m : Message) : (s.respond p m).denials = s.denials := rfl
@[simp] theorem respond_windows (p : Port) (m : Message) : (s.respond p m).windows = s.windows := rfl
@[simp] theorem respond_profiles (p : Port) (m : Message) : (s.respond p m).profiles = s.profiles := rfl
@[simp] theorem respond_trackers (p : Port) (m : Message) : (s.respond p m).trackers = s.trackers := rfl
@[simp] theorem respond_queues (p : Port) (m : Message) : (s.respond p m).queues = s.queues := rfl
@[simp] theorem respond_lastGranted (p : Port) (m : Message) : (s.respond p m).lastGranted = s.lastGranted := rfl
@[simp] theorem respond_job (p : Port) (m : Message) : (s.respond p m).job = s.job := rfl
@[simp] theorem respond_links (p : Port) (m : Message) : (s.respond p m).links = s.links := rfl
@[simp] theorem respond_timeBase (p : Port) (m : Message) : (s.respond p m).timeBase = s.timeBase := rfl
@[simp] theorem respond_freeCount (p : Port) (m : Message) : (s.respond p m).freeCount = s.freeCount := rfl
@[simp] theorem respond_window (p : Port) (m : Message) (w : WindowNo) :
    (s.respond p m).window w = s.window w := rfl
@[simp] theorem respond_profile (p : Port) (m : Message) (d : Device) :
    (s.respond p m).profile d = s.profile d := rfl
@[simp] theorem respond_tracker (p : Port) (m : Message) (d : Device) :
    (s.respond p m).tracker d = s.tracker d := rfl
@[simp] theorem respond_queue (p : Port) (m : Message) (q : Port) : (s.respond p m).queue q = s.queue q := rfl
@[simp] theorem respond_link (p : Port) (m : Message) (q : Port) : (s.respond p m).link q = s.link q := rfl

/-! raise -/

@[simp] theorem raise_pending (p : Port) (n : Notice) : (s.raise p n).pending = s.pending := rfl
@[simp] theorem raise_power (p : Port) (n : Notice) : (s.raise p n).power = s.power := rfl
@[simp] theorem raise_resetPin (p : Port) (n : Notice) : (s.raise p n).resetPin = s.resetPin := rfl
@[simp] theorem raise_part (p : Port) (n : Notice) : (s.raise p n).part = s.part := rfl
@[simp] theorem raise_clearStep (p : Port) (n : Notice) : (s.raise p n).clearStep = s.clearStep := rfl
@[simp] theorem raise_manager (p : Port) (n : Notice) : (s.raise p n).manager = s.manager := rfl
@[simp] theorem raise_frozen (p : Port) (n : Notice) : (s.raise p n).frozen = s.frozen := rfl
@[simp] theorem raise_epoch (p : Port) (n : Notice) : (s.raise p n).epoch = s.epoch := rfl
@[simp] theorem raise_denials (p : Port) (n : Notice) : (s.raise p n).denials = s.denials := rfl
@[simp] theorem raise_windows (p : Port) (n : Notice) : (s.raise p n).windows = s.windows := rfl
@[simp] theorem raise_profiles (p : Port) (n : Notice) : (s.raise p n).profiles = s.profiles := rfl
@[simp] theorem raise_trackers (p : Port) (n : Notice) : (s.raise p n).trackers = s.trackers := rfl
@[simp] theorem raise_queues (p : Port) (n : Notice) : (s.raise p n).queues = s.queues := rfl
@[simp] theorem raise_lastGranted (p : Port) (n : Notice) : (s.raise p n).lastGranted = s.lastGranted := rfl
@[simp] theorem raise_job (p : Port) (n : Notice) : (s.raise p n).job = s.job := rfl
@[simp] theorem raise_links (p : Port) (n : Notice) : (s.raise p n).links = s.links := rfl
@[simp] theorem raise_timeBase (p : Port) (n : Notice) : (s.raise p n).timeBase = s.timeBase := rfl
@[simp] theorem raise_freeCount (p : Port) (n : Notice) : (s.raise p n).freeCount = s.freeCount := rfl
@[simp] theorem raise_window (p : Port) (n : Notice) (w : WindowNo) : (s.raise p n).window w = s.window w := rfl
@[simp] theorem raise_profile (p : Port) (n : Notice) (d : Device) : (s.raise p n).profile d = s.profile d := rfl
@[simp] theorem raise_tracker (p : Port) (n : Notice) (d : Device) : (s.raise p n).tracker d = s.tracker d := rfl
@[simp] theorem raise_queue (p : Port) (n : Notice) (q : Port) : (s.raise p n).queue q = s.queue q := rfl
@[simp] theorem raise_link (p : Port) (n : Notice) (q : Port) : (s.raise p n).link q = s.link q := rfl

/-! moveNotices -/

@[simp] theorem moveNotices_pending (p : Port) : (s.moveNotices p).pending = s.pending := rfl
@[simp] theorem moveNotices_power (p : Port) : (s.moveNotices p).power = s.power := rfl
@[simp] theorem moveNotices_resetPin (p : Port) : (s.moveNotices p).resetPin = s.resetPin := rfl
@[simp] theorem moveNotices_part (p : Port) : (s.moveNotices p).part = s.part := rfl
@[simp] theorem moveNotices_clearStep (p : Port) : (s.moveNotices p).clearStep = s.clearStep := rfl
@[simp] theorem moveNotices_manager (p : Port) : (s.moveNotices p).manager = s.manager := rfl
@[simp] theorem moveNotices_frozen (p : Port) : (s.moveNotices p).frozen = s.frozen := rfl
@[simp] theorem moveNotices_epoch (p : Port) : (s.moveNotices p).epoch = s.epoch := rfl
@[simp] theorem moveNotices_denials (p : Port) : (s.moveNotices p).denials = s.denials := rfl
@[simp] theorem moveNotices_windows (p : Port) : (s.moveNotices p).windows = s.windows := rfl
@[simp] theorem moveNotices_profiles (p : Port) : (s.moveNotices p).profiles = s.profiles := rfl
@[simp] theorem moveNotices_trackers (p : Port) : (s.moveNotices p).trackers = s.trackers := rfl
@[simp] theorem moveNotices_queues (p : Port) : (s.moveNotices p).queues = s.queues := rfl
@[simp] theorem moveNotices_lastGranted (p : Port) : (s.moveNotices p).lastGranted = s.lastGranted := rfl
@[simp] theorem moveNotices_job (p : Port) : (s.moveNotices p).job = s.job := rfl
@[simp] theorem moveNotices_links (p : Port) : (s.moveNotices p).links = s.links := rfl
@[simp] theorem moveNotices_timeBase (p : Port) : (s.moveNotices p).timeBase = s.timeBase := rfl
@[simp] theorem moveNotices_freeCount (p : Port) : (s.moveNotices p).freeCount = s.freeCount := rfl
@[simp] theorem moveNotices_window (p : Port) (w : WindowNo) : (s.moveNotices p).window w = s.window w := rfl
@[simp] theorem moveNotices_profile (p : Port) (d : Device) : (s.moveNotices p).profile d = s.profile d := rfl
@[simp] theorem moveNotices_tracker (p : Port) (d : Device) : (s.moveNotices p).tracker d = s.tracker d := rfl
@[simp] theorem moveNotices_queue (p : Port) (q : Port) : (s.moveNotices p).queue q = s.queue q := rfl
@[simp] theorem moveNotices_link (p : Port) (q : Port) : (s.moveNotices p).link q = s.link q := rfl

/-! driveAttention -/

@[simp] theorem driveAttention_pending : (s.driveAttention).pending = s.pending := rfl
@[simp] theorem driveAttention_power : (s.driveAttention).power = s.power := rfl
@[simp] theorem driveAttention_resetPin : (s.driveAttention).resetPin = s.resetPin := rfl
@[simp] theorem driveAttention_part : (s.driveAttention).part = s.part := rfl
@[simp] theorem driveAttention_clearStep : (s.driveAttention).clearStep = s.clearStep := rfl
@[simp] theorem driveAttention_manager : (s.driveAttention).manager = s.manager := rfl
@[simp] theorem driveAttention_frozen : (s.driveAttention).frozen = s.frozen := rfl
@[simp] theorem driveAttention_epoch : (s.driveAttention).epoch = s.epoch := rfl
@[simp] theorem driveAttention_denials : (s.driveAttention).denials = s.denials := rfl
@[simp] theorem driveAttention_windows : (s.driveAttention).windows = s.windows := rfl
@[simp] theorem driveAttention_profiles : (s.driveAttention).profiles = s.profiles := rfl
@[simp] theorem driveAttention_trackers : (s.driveAttention).trackers = s.trackers := rfl
@[simp] theorem driveAttention_queues : (s.driveAttention).queues = s.queues := rfl
@[simp] theorem driveAttention_lastGranted : (s.driveAttention).lastGranted = s.lastGranted := rfl
@[simp] theorem driveAttention_job : (s.driveAttention).job = s.job := rfl
@[simp] theorem driveAttention_links : (s.driveAttention).links = s.links := rfl
@[simp] theorem driveAttention_timeBase : (s.driveAttention).timeBase = s.timeBase := rfl
@[simp] theorem driveAttention_freeCount : (s.driveAttention).freeCount = s.freeCount := rfl
@[simp] theorem driveAttention_window (w : WindowNo) : (s.driveAttention).window w = s.window w := rfl
@[simp] theorem driveAttention_profile (d : Device) : (s.driveAttention).profile d = s.profile d := rfl
@[simp] theorem driveAttention_tracker (d : Device) : (s.driveAttention).tracker d = s.tracker d := rfl
@[simp] theorem driveAttention_queue (q : Port) : (s.driveAttention).queue q = s.queue q := rfl
@[simp] theorem driveAttention_link (q : Port) : (s.driveAttention).link q = s.link q := rfl

/-! lowerRef -/

@[simp] theorem lowerRef_pending (e : Device) : (s.lowerRef e).pending = s.pending := rfl
@[simp] theorem lowerRef_power (e : Device) : (s.lowerRef e).power = s.power := rfl
@[simp] theorem lowerRef_resetPin (e : Device) : (s.lowerRef e).resetPin = s.resetPin := rfl
@[simp] theorem lowerRef_part (e : Device) : (s.lowerRef e).part = s.part := rfl
@[simp] theorem lowerRef_clearStep (e : Device) : (s.lowerRef e).clearStep = s.clearStep := rfl
@[simp] theorem lowerRef_manager (e : Device) : (s.lowerRef e).manager = s.manager := rfl
@[simp] theorem lowerRef_frozen (e : Device) : (s.lowerRef e).frozen = s.frozen := rfl
@[simp] theorem lowerRef_epoch (e : Device) : (s.lowerRef e).epoch = s.epoch := rfl
@[simp] theorem lowerRef_denials (e : Device) : (s.lowerRef e).denials = s.denials := rfl
@[simp] theorem lowerRef_windows (e : Device) : (s.lowerRef e).windows = s.windows := rfl
@[simp] theorem lowerRef_profiles (e : Device) : (s.lowerRef e).profiles = s.profiles := rfl
@[simp] theorem lowerRef_queues (e : Device) : (s.lowerRef e).queues = s.queues := rfl
@[simp] theorem lowerRef_lastGranted (e : Device) : (s.lowerRef e).lastGranted = s.lastGranted := rfl
@[simp] theorem lowerRef_job (e : Device) : (s.lowerRef e).job = s.job := rfl
@[simp] theorem lowerRef_outbound (e : Device) : (s.lowerRef e).outbound = s.outbound := rfl
@[simp] theorem lowerRef_links (e : Device) : (s.lowerRef e).links = s.links := rfl
@[simp] theorem lowerRef_timeBase (e : Device) : (s.lowerRef e).timeBase = s.timeBase := rfl
@[simp] theorem lowerRef_freeCount (e : Device) : (s.lowerRef e).freeCount = s.freeCount := rfl
@[simp] theorem lowerRef_window (e : Device) (w : WindowNo) : (s.lowerRef e).window w = s.window w := rfl
@[simp] theorem lowerRef_profile (e : Device) (d : Device) : (s.lowerRef e).profile d = s.profile d := rfl
@[simp] theorem lowerRef_queue (e : Device) (q : Port) : (s.lowerRef e).queue q = s.queue q := rfl
@[simp] theorem lowerRef_out (e : Device) (q : Port) : (s.lowerRef e).out q = s.out q := rfl
@[simp] theorem lowerRef_link (e : Device) (q : Port) : (s.lowerRef e).link q = s.link q := rfl

/-! reconsider -/

@[simp] theorem reconsider_pending : (s.reconsider).pending = s.pending := rfl
@[simp] theorem reconsider_power : (s.reconsider).power = s.power := rfl
@[simp] theorem reconsider_resetPin : (s.reconsider).resetPin = s.resetPin := rfl
@[simp] theorem reconsider_part : (s.reconsider).part = s.part := rfl
@[simp] theorem reconsider_clearStep : (s.reconsider).clearStep = s.clearStep := rfl
@[simp] theorem reconsider_manager : (s.reconsider).manager = s.manager := rfl
@[simp] theorem reconsider_frozen : (s.reconsider).frozen = s.frozen := rfl
@[simp] theorem reconsider_epoch : (s.reconsider).epoch = s.epoch := rfl
@[simp] theorem reconsider_denials : (s.reconsider).denials = s.denials := rfl
@[simp] theorem reconsider_windows : (s.reconsider).windows = s.windows := rfl
@[simp] theorem reconsider_profiles : (s.reconsider).profiles = s.profiles := rfl
@[simp] theorem reconsider_queues : (s.reconsider).queues = s.queues := rfl
@[simp] theorem reconsider_lastGranted : (s.reconsider).lastGranted = s.lastGranted := rfl
@[simp] theorem reconsider_job : (s.reconsider).job = s.job := rfl
@[simp] theorem reconsider_outbound : (s.reconsider).outbound = s.outbound := rfl
@[simp] theorem reconsider_links : (s.reconsider).links = s.links := rfl
@[simp] theorem reconsider_timeBase : (s.reconsider).timeBase = s.timeBase := rfl
@[simp] theorem reconsider_freeCount : (s.reconsider).freeCount = s.freeCount := rfl
@[simp] theorem reconsider_window (w : WindowNo) : (s.reconsider).window w = s.window w := rfl
@[simp] theorem reconsider_profile (d : Device) : (s.reconsider).profile d = s.profile d := rfl
@[simp] theorem reconsider_queue (q : Port) : (s.reconsider).queue q = s.queue q := rfl
@[simp] theorem reconsider_out (q : Port) : (s.reconsider).out q = s.out q := rfl
@[simp] theorem reconsider_link (q : Port) : (s.reconsider).link q = s.link q := rfl

/-! close -/

@[simp] theorem close_pending : (s.close).pending = s.pending := rfl
@[simp] theorem close_power : (s.close).power = s.power := rfl
@[simp] theorem close_resetPin : (s.close).resetPin = s.resetPin := rfl
@[simp] theorem close_part : (s.close).part = s.part := rfl
@[simp] theorem close_clearStep : (s.close).clearStep = s.clearStep := rfl
@[simp] theorem close_manager : (s.close).manager = s.manager := rfl
@[simp] theorem close_frozen : (s.close).frozen = s.frozen := rfl
@[simp] theorem close_epoch : (s.close).epoch = s.epoch := rfl
@[simp] theorem close_denials : (s.close).denials = s.denials := rfl
@[simp] theorem close_windows : (s.close).windows = s.windows := rfl
@[simp] theorem close_profiles : (s.close).profiles = s.profiles := rfl
@[simp] theorem close_queues : (s.close).queues = s.queues := rfl
@[simp] theorem close_lastGranted : (s.close).lastGranted = s.lastGranted := rfl
@[simp] theorem close_job : (s.close).job = s.job := rfl
@[simp] theorem close_links : (s.close).links = s.links := rfl
@[simp] theorem close_timeBase : (s.close).timeBase = s.timeBase := rfl
@[simp] theorem close_freeCount : (s.close).freeCount = s.freeCount := rfl
@[simp] theorem close_window (w : WindowNo) : (s.close).window w = s.window w := rfl
@[simp] theorem close_profile (d : Device) : (s.close).profile d = s.profile d := rfl
@[simp] theorem close_queue (q : Port) : (s.close).queue q = s.queue q := rfl
@[simp] theorem close_link (q : Port) : (s.close).link q = s.link q := rfl

/-! accept -/

@[simp] theorem accept_pending (p : Port) : (s.accept p).pending = s.pending := rfl
@[simp] theorem accept_power (p : Port) : (s.accept p).power = s.power := rfl
@[simp] theorem accept_resetPin (p : Port) : (s.accept p).resetPin = s.resetPin := rfl
@[simp] theorem accept_part (p : Port) : (s.accept p).part = s.part := rfl
@[simp] theorem accept_clearStep (p : Port) : (s.accept p).clearStep = s.clearStep := rfl
@[simp] theorem accept_manager (p : Port) : (s.accept p).manager = s.manager := rfl
@[simp] theorem accept_frozen (p : Port) : (s.accept p).frozen = s.frozen := rfl
@[simp] theorem accept_epoch (p : Port) : (s.accept p).epoch = s.epoch := rfl
@[simp] theorem accept_denials (p : Port) : (s.accept p).denials = s.denials := rfl
@[simp] theorem accept_windows (p : Port) : (s.accept p).windows = s.windows := rfl
@[simp] theorem accept_profiles (p : Port) : (s.accept p).profiles = s.profiles := rfl
@[simp] theorem accept_trackers (p : Port) : (s.accept p).trackers = s.trackers := rfl
@[simp] theorem accept_queues (p : Port) : (s.accept p).queues = s.queues := rfl
@[simp] theorem accept_lastGranted (p : Port) : (s.accept p).lastGranted = s.lastGranted := rfl
@[simp] theorem accept_job (p : Port) : (s.accept p).job = s.job := rfl
@[simp] theorem accept_links (p : Port) : (s.accept p).links = s.links := rfl
@[simp] theorem accept_timeBase (p : Port) : (s.accept p).timeBase = s.timeBase := rfl
@[simp] theorem accept_freeCount (p : Port) : (s.accept p).freeCount = s.freeCount := rfl
@[simp] theorem accept_window (p : Port) (w : WindowNo) : (s.accept p).window w = s.window w := rfl
@[simp] theorem accept_profile (p : Port) (d : Device) : (s.accept p).profile d = s.profile d := rfl
@[simp] theorem accept_tracker (p : Port) (d : Device) : (s.accept p).tracker d = s.tracker d := rfl
@[simp] theorem accept_queue (p : Port) (q : Port) : (s.accept p).queue q = s.queue q := rfl
@[simp] theorem accept_link (p : Port) (q : Port) : (s.accept p).link q = s.link q := rfl

/-! writeReceipt -/

@[simp] theorem writeReceipt_pending (p : Port) (g : Byte) (c : ReceiptCode) :
    (s.writeReceipt p g c).pending = s.pending := rfl
@[simp] theorem writeReceipt_power (p : Port) (g : Byte) (c : ReceiptCode) :
    (s.writeReceipt p g c).power = s.power := rfl
@[simp] theorem writeReceipt_resetPin (p : Port) (g : Byte) (c : ReceiptCode) :
    (s.writeReceipt p g c).resetPin = s.resetPin := rfl
@[simp] theorem writeReceipt_part (p : Port) (g : Byte) (c : ReceiptCode) :
    (s.writeReceipt p g c).part = s.part := rfl
@[simp] theorem writeReceipt_clearStep (p : Port) (g : Byte) (c : ReceiptCode) :
    (s.writeReceipt p g c).clearStep = s.clearStep := rfl
@[simp] theorem writeReceipt_manager (p : Port) (g : Byte) (c : ReceiptCode) :
    (s.writeReceipt p g c).manager = s.manager := rfl
@[simp] theorem writeReceipt_frozen (p : Port) (g : Byte) (c : ReceiptCode) :
    (s.writeReceipt p g c).frozen = s.frozen := rfl
@[simp] theorem writeReceipt_epoch (p : Port) (g : Byte) (c : ReceiptCode) :
    (s.writeReceipt p g c).epoch = s.epoch := rfl
@[simp] theorem writeReceipt_denials (p : Port) (g : Byte) (c : ReceiptCode) :
    (s.writeReceipt p g c).denials = s.denials := rfl
@[simp] theorem writeReceipt_windows (p : Port) (g : Byte) (c : ReceiptCode) :
    (s.writeReceipt p g c).windows = s.windows := rfl
@[simp] theorem writeReceipt_profiles (p : Port) (g : Byte) (c : ReceiptCode) :
    (s.writeReceipt p g c).profiles = s.profiles := rfl
@[simp] theorem writeReceipt_trackers (p : Port) (g : Byte) (c : ReceiptCode) :
    (s.writeReceipt p g c).trackers = s.trackers := rfl
@[simp] theorem writeReceipt_queues (p : Port) (g : Byte) (c : ReceiptCode) :
    (s.writeReceipt p g c).queues = s.queues := rfl
@[simp] theorem writeReceipt_lastGranted (p : Port) (g : Byte) (c : ReceiptCode) :
    (s.writeReceipt p g c).lastGranted = s.lastGranted := rfl
@[simp] theorem writeReceipt_job (p : Port) (g : Byte) (c : ReceiptCode) : (s.writeReceipt p g c).job = s.job := rfl
@[simp] theorem writeReceipt_outbound (p : Port) (g : Byte) (c : ReceiptCode) :
    (s.writeReceipt p g c).outbound = s.outbound := rfl
@[simp] theorem writeReceipt_timeBase (p : Port) (g : Byte) (c : ReceiptCode) :
    (s.writeReceipt p g c).timeBase = s.timeBase := rfl
@[simp] theorem writeReceipt_freeCount (p : Port) (g : Byte) (c : ReceiptCode) :
    (s.writeReceipt p g c).freeCount = s.freeCount := rfl
@[simp] theorem writeReceipt_window (p : Port) (g : Byte) (c : ReceiptCode) (w : WindowNo) :
    (s.writeReceipt p g c).window w = s.window w := rfl
@[simp] theorem writeReceipt_profile (p : Port) (g : Byte) (c : ReceiptCode) (d : Device) :
    (s.writeReceipt p g c).profile d = s.profile d := rfl
@[simp] theorem writeReceipt_tracker (p : Port) (g : Byte) (c : ReceiptCode) (d : Device) :
    (s.writeReceipt p g c).tracker d = s.tracker d := rfl
@[simp] theorem writeReceipt_queue (p : Port) (g : Byte) (c : ReceiptCode) (q : Port) :
    (s.writeReceipt p g c).queue q = s.queue q := rfl
@[simp] theorem writeReceipt_out (p : Port) (g : Byte) (c : ReceiptCode) (q : Port) :
    (s.writeReceipt p g c).out q = s.out q := rfl

/-! raiseDenials -/

@[simp] theorem raiseDenials_pending (p : Port) : (s.raiseDenials p).pending = s.pending := rfl
@[simp] theorem raiseDenials_power (p : Port) : (s.raiseDenials p).power = s.power := rfl
@[simp] theorem raiseDenials_resetPin (p : Port) : (s.raiseDenials p).resetPin = s.resetPin := rfl
@[simp] theorem raiseDenials_part (p : Port) : (s.raiseDenials p).part = s.part := rfl
@[simp] theorem raiseDenials_clearStep (p : Port) : (s.raiseDenials p).clearStep = s.clearStep := rfl
@[simp] theorem raiseDenials_manager (p : Port) : (s.raiseDenials p).manager = s.manager := rfl
@[simp] theorem raiseDenials_frozen (p : Port) : (s.raiseDenials p).frozen = s.frozen := rfl
@[simp] theorem raiseDenials_epoch (p : Port) : (s.raiseDenials p).epoch = s.epoch := rfl
@[simp] theorem raiseDenials_windows (p : Port) : (s.raiseDenials p).windows = s.windows := rfl
@[simp] theorem raiseDenials_profiles (p : Port) : (s.raiseDenials p).profiles = s.profiles := rfl
@[simp] theorem raiseDenials_trackers (p : Port) : (s.raiseDenials p).trackers = s.trackers := rfl
@[simp] theorem raiseDenials_queues (p : Port) : (s.raiseDenials p).queues = s.queues := rfl
@[simp] theorem raiseDenials_lastGranted (p : Port) : (s.raiseDenials p).lastGranted = s.lastGranted := rfl
@[simp] theorem raiseDenials_job (p : Port) : (s.raiseDenials p).job = s.job := rfl
@[simp] theorem raiseDenials_outbound (p : Port) : (s.raiseDenials p).outbound = s.outbound := rfl
@[simp] theorem raiseDenials_links (p : Port) : (s.raiseDenials p).links = s.links := rfl
@[simp] theorem raiseDenials_timeBase (p : Port) : (s.raiseDenials p).timeBase = s.timeBase := rfl
@[simp] theorem raiseDenials_freeCount (p : Port) : (s.raiseDenials p).freeCount = s.freeCount := rfl
@[simp] theorem raiseDenials_window (p : Port) (w : WindowNo) : (s.raiseDenials p).window w = s.window w := rfl
@[simp] theorem raiseDenials_profile (p : Port) (d : Device) : (s.raiseDenials p).profile d = s.profile d := rfl
@[simp] theorem raiseDenials_tracker (p : Port) (d : Device) : (s.raiseDenials p).tracker d = s.tracker d := rfl
@[simp] theorem raiseDenials_queue (p : Port) (q : Port) : (s.raiseDenials p).queue q = s.queue q := rfl
@[simp] theorem raiseDenials_out (p : Port) (q : Port) : (s.raiseDenials p).out q = s.out q := rfl
@[simp] theorem raiseDenials_link (p : Port) (q : Port) : (s.raiseDenials p).link q = s.link q := rfl

/-! countFree -/

@[simp] theorem countFree_pending (n : Nat) : (s.countFree n).pending = s.pending := rfl
@[simp] theorem countFree_power (n : Nat) : (s.countFree n).power = s.power := rfl
@[simp] theorem countFree_resetPin (n : Nat) : (s.countFree n).resetPin = s.resetPin := rfl
@[simp] theorem countFree_part (n : Nat) : (s.countFree n).part = s.part := rfl
@[simp] theorem countFree_clearStep (n : Nat) : (s.countFree n).clearStep = s.clearStep := rfl
@[simp] theorem countFree_manager (n : Nat) : (s.countFree n).manager = s.manager := rfl
@[simp] theorem countFree_frozen (n : Nat) : (s.countFree n).frozen = s.frozen := rfl
@[simp] theorem countFree_epoch (n : Nat) : (s.countFree n).epoch = s.epoch := rfl
@[simp] theorem countFree_denials (n : Nat) : (s.countFree n).denials = s.denials := rfl
@[simp] theorem countFree_windows (n : Nat) : (s.countFree n).windows = s.windows := rfl
@[simp] theorem countFree_profiles (n : Nat) : (s.countFree n).profiles = s.profiles := rfl
@[simp] theorem countFree_trackers (n : Nat) : (s.countFree n).trackers = s.trackers := rfl
@[simp] theorem countFree_queues (n : Nat) : (s.countFree n).queues = s.queues := rfl
@[simp] theorem countFree_lastGranted (n : Nat) : (s.countFree n).lastGranted = s.lastGranted := rfl
@[simp] theorem countFree_job (n : Nat) : (s.countFree n).job = s.job := rfl
@[simp] theorem countFree_outbound (n : Nat) : (s.countFree n).outbound = s.outbound := rfl
@[simp] theorem countFree_links (n : Nat) : (s.countFree n).links = s.links := rfl
@[simp] theorem countFree_timeBase (n : Nat) : (s.countFree n).timeBase = s.timeBase := rfl
@[simp] theorem countFree_window (n : Nat) (w : WindowNo) : (s.countFree n).window w = s.window w := rfl
@[simp] theorem countFree_profile (n : Nat) (d : Device) : (s.countFree n).profile d = s.profile d := rfl
@[simp] theorem countFree_tracker (n : Nat) (d : Device) : (s.countFree n).tracker d = s.tracker d := rfl
@[simp] theorem countFree_queue (n : Nat) (q : Port) : (s.countFree n).queue q = s.queue q := rfl
@[simp] theorem countFree_out (n : Nat) (q : Port) : (s.countFree n).out q = s.out q := rfl
@[simp] theorem countFree_link (n : Nat) (q : Port) : (s.countFree n).link q = s.link q := rfl

end Sys2Proof.Machine.State
end

