-- ==== Sys2Proof/Laws/Ops.lean ====
section
/-! SUPPORT. For each shared operation, once, what it can do: the proofs over steps cite these and do not unfold it. -/

namespace Sys2Proof.Machine

/-! ## Outbound units (07) -/

namespace Outbound

variable (o : Outbound)

@[simp] theorem respond_queue (m : Message) : (o.respond m).queue = o.queue ++ [m] := rfl
@[simp] theorem respond_reservations (m : Message) : (o.respond m).reservations = o.reservations - 1 := rfl
@[simp] theorem respond_notices (m : Message) : (o.respond m).notices = o.notices := rfl
@[simp] theorem reserve_queue : o.reserve.queue = o.queue := rfl
@[simp] theorem reserve_reservations : o.reserve.reservations = o.reservations + 1 := rfl
@[simp] theorem reserve_notices : o.reserve.notices = o.notices := rfl
@[simp] theorem raise_queue (n : Notice) : (o.raise n).queue = o.queue := rfl
@[simp] theorem raise_reservations (n : Notice) : (o.raise n).reservations = o.reservations := rfl
@[simp] theorem removeHead_queue : o.removeHead.queue = o.queue.tail := rfl
@[simp] theorem removeHead_reservations : o.removeHead.reservations = o.reservations := rfl
@[simp] theorem removeHead_notices : o.removeHead.notices = o.notices := rfl
@[simp] theorem driveAttention_queue (st : PartState) : (o.driveAttention st).queue = o.queue := rfl
@[simp] theorem driveAttention_reservations (st : PartState) :
    (o.driveAttention st).reservations = o.reservations := rfl
@[simp] theorem driveAttention_notices (st : PartState) : (o.driveAttention st).notices = o.notices := rfl
@[simp] theorem driveAttention_sum (st : PartState) : (o.driveAttention st).sum = o.sum := rfl
@[simp] theorem driveAttention_driveAttention (st : PartState) :
    (o.driveAttention st).driveAttention st = o.driveAttention st := rfl

/-- A response takes the place of its reservation (R132). -/
theorem respond_sum (m : Message) (h : 0 < o.reservations) : (o.respond m).sum = o.sum := by
  simp only [sum, respond_queue, respond_reservations, List.length_append, List.length_singleton]
  omega

/-- What one move of R138 can do. -/
theorem moveOne_cases :
    o.moveOne = o ∧ (Config.outboundCapacity ≤ o.sum ∨ o.notices.takeFirst = none)
    ∨ ∃ n rest, o.sum < Config.outboundCapacity ∧ o.notices.takeFirst = some (n, rest)
        ∧ o.moveOne = { o with queue := o.queue ++ [.notice n], notices := rest } := by
  unfold moveOne
  split
  · rename_i h
    split
    · rename_i n rest e
      exact .inr ⟨n, rest, h, e, rfl⟩
    · rename_i e
      exact .inl ⟨rfl, .inr e⟩
  · rename_i h
    exact .inl ⟨rfl, .inl (by omega)⟩

theorem moveOne_reservations : o.moveOne.reservations = o.reservations := by
  obtain ⟨h, _⟩ | ⟨n, rest, _, _, h⟩ := o.moveOne_cases <;> rw [h]

theorem moveOne_attention : o.moveOne.attention = o.attention := by
  obtain ⟨h, _⟩ | ⟨n, rest, _, _, h⟩ := o.moveOne_cases <;> rw [h]

theorem moveOne_sum_le (h : o.sum ≤ Config.outboundCapacity) : o.moveOne.sum ≤ Config.outboundCapacity := by
  obtain ⟨e, _⟩ | ⟨n, rest, hs, _, e⟩ := o.moveOne_cases
  · rwa [e]
  · rw [e]
    simp only [sum, List.length_append, List.length_singleton] at hs ⊢
    omega

theorem moveOne_prefix : o.queue <+: o.moveOne.queue := by
  obtain ⟨e, _⟩ | ⟨n, rest, _, _, e⟩ := o.moveOne_cases
  · rw [e]
  · rw [e]
    exact List.prefix_append _ _

@[simp] theorem moveNotices_reservations : o.moveNotices.reservations = o.reservations := by
  simp only [moveNotices, Function.iterate_succ, Function.iterate_zero, Function.comp, id, moveOne_reservations]

@[simp] theorem moveNotices_attention : o.moveNotices.attention = o.attention := by
  simp only [moveNotices, Function.iterate_succ, Function.iterate_zero, Function.comp, id, moveOne_attention]

/-- Moving notices never takes the sum past 8 (R138). -/
theorem moveNotices_sum_le (h : o.sum ≤ Config.outboundCapacity) :
    o.moveNotices.sum ≤ Config.outboundCapacity := by
  simp only [moveNotices, Function.iterate_succ, Function.iterate_zero, Function.comp, id]
  exact moveOne_sum_le _ (moveOne_sum_le _ (moveOne_sum_le _ (moveOne_sum_le _ (moveOne_sum_le _ h))))

/-- Moved notices stand behind what the queue held (R130). -/
theorem moveNotices_prefix : o.queue <+: o.moveNotices.queue := by
  simp only [moveNotices, Function.iterate_succ, Function.iterate_zero, Function.comp, id]
  exact (((((moveOne_prefix _).trans (moveOne_prefix _)).trans (moveOne_prefix _)).trans (moveOne_prefix _)).trans
    (moveOne_prefix _))

theorem takeFirst_empty : NoticeSet.empty.takeFirst = none := rfl

theorem takeFirst_eq_none {n : NoticeSet} : n.takeFirst = none ↔ n = .empty := by
  obtain ⟨a, b, c, d, e⟩ := n
  cases a <;> cases b <;> cases c <;> cases d <;> cases e <;> simp [NoticeSet.takeFirst, NoticeSet.empty]

/-- With nothing to move, or no room, a move changes nothing. -/
theorem moveOne_of_quiet (h : o.notices = .empty ∨ Config.outboundCapacity ≤ o.sum) : o.moveOne = o := by
  obtain ⟨e, _⟩ | ⟨n, rest, hs, ht, _⟩ := o.moveOne_cases
  · exact e
  · rcases h with h | h
    · rw [h, takeFirst_empty] at ht
      cases ht
    · omega

/-- With nothing to move, or no room, the moves change nothing (R138). -/
theorem moveNotices_of_quiet (h : o.notices = .empty ∨ Config.outboundCapacity ≤ o.sum) : o.moveNotices = o := by
  simp only [moveNotices, Function.iterate_succ, Function.iterate_zero, Function.comp, id, moveOne_of_quiet o h]

end Outbound

/-! ## Notices and attention on the state -/

namespace State

variable (s : State)

theorem respond_out (p q : Port) (m : Message) :
    (s.respond p m).out q = if q = p then (s.out p).respond m else s.out q := out_setOut _ _ _ _

theorem raise_out (p q : Port) (n : Notice) :
    (s.raise p n).out q = if q = p then (s.out p).raise n else s.out q := out_setOut _ _ _ _

theorem moveNotices_out (p q : Port) :
    (s.moveNotices p).out q = if q = p then (s.out p).moveNotices else s.out q := out_setOut _ _ _ _

theorem accept_out (p q : Port) :
    (s.accept p).out q = if q = p then (s.out p).reserve else s.out q := out_setOut _ _ _ _

@[simp] theorem driveAttention_out (q : Port) : s.driveAttention.out q = (s.out q).driveAttention s.part := by
  cases q <;> rfl

@[simp] theorem driveAttention_driveAttention : s.driveAttention.driveAttention = s.driveAttention := rfl

/-- Where the attention lines already follow (R140), driving them changes nothing. -/
theorem driveAttention_of_law (h : AttentionLaw s) : s.driveAttention = s := by
  have ha : s.outbound.a.driveAttention s.part = s.outbound.a := by
    have := h .A
    simp only [out, PerPort.get] at this
    simp only [Outbound.driveAttention, ← this]
  have hb : s.outbound.b.driveAttention s.part = s.outbound.b := by
    have := h .B
    simp only [out, PerPort.get] at this
    simp only [Outbound.driveAttention, ← this]
  simp only [driveAttention, ha, hb]

/-! ## Wants and the close of an event -/

/-- Every tracker after the reconsideration of the wants (R74, R86). -/
@[simp] theorem reconsider_tracker (d : Device) : s.reconsider.tracker d = s.rewant d (s.tracker d) := by
  simp [reconsider, tracker]

@[simp] theorem rewant_state (d : Device) (t : Tracker) : (s.rewant d t).state = t.state := rfl
@[simp] theorem rewant_stack (d : Device) (t : Tracker) : (s.rewant d t).stack = t.stack := rfl
@[simp] theorem rewant_wantPoll (d : Device) (t : Tracker) : (s.rewant d t).wantPoll = t.wantPoll := rfl
@[simp] theorem rewant_wantReset (d : Device) (t : Tracker) : (s.rewant d t).wantReset = t.wantReset := rfl
@[simp] theorem rewant_pollTimer (d : Device) (t : Tracker) : (s.rewant d t).pollTimer = t.pollTimer := rfl
@[simp] theorem rewant_suspendSettle (d : Device) (t : Tracker) :
    (s.rewant d t).suspendSettle = t.suspendSettle := rfl
@[simp] theorem rewant_resetSettle (d : Device) (t : Tracker) : (s.rewant d t).resetSettle = t.resetSettle := rfl
@[simp] theorem rewant_cause (d : Device) (t : Tracker) : (s.rewant d t).cause = t.cause := rfl
@[simp] theorem rewant_timeouts (d : Device) (t : Tracker) : (s.rewant d t).timeouts = t.timeouts := rfl
@[simp] theorem rewant_refCount (d : Device) (t : Tracker) : (s.rewant d t).refCount = t.refCount := rfl

/-- Every tracker after the close of an event. -/
@[simp] theorem close_tracker (d : Device) : s.close.tracker d = s.rewant d (s.tracker d) := by
  rw [close, driveAttention_tracker, moveNotices_tracker, moveNotices_tracker, reconsider_tracker]

/-- Each outbound unit after the close of an event (R138, R140). -/
@[simp] theorem close_out (q : Port) : s.close.out q = (s.out q).moveNotices.driveAttention s.part := by
  rw [close, driveAttention_out, moveNotices_out]
  cases q <;> simp [moveNotices_out]

/-! ## Answers (R4, R26, R52, R132) -/

/-- The two things that lowering a use count can do (R4, R26). -/
theorem lowerUse_cases (w : WindowNo) :
    (s.window w).useCount = 1 ∧ (s.window w).swapPending = true
      ∧ s.lowerUse w = (s.setWindow w { s.window w with
          useCount := 0, activeBank := (s.window w).activeBank.flip, swapPending := false }).raise
            s.manager (.swapDone (windowBit w))
    ∨ ¬ ((s.window w).useCount = 1 ∧ (s.window w).swapPending = true)
      ∧ s.lowerUse w = s.setWindow w { s.window w with useCount := (s.window w).useCount - 1 } := by
  unfold lowerUse
  by_cases h : (s.window w).useCount = 1 ∧ (s.window w).swapPending = true
  · exact .inl ⟨h.1, h.2, by simp [h]⟩
  · exact .inr ⟨h, by simp [h]⟩

/-- Lowering a use count changes windows and outbound units only. -/
theorem lowerUse_frame (w : WindowNo) :
    s.lowerUse w = { s with windows := (s.lowerUse w).windows, outbound := (s.lowerUse w).outbound } := by
  obtain ⟨_, _, h⟩ | ⟨_, h⟩ := s.lowerUse_cases w <;> rw [h] <;> rfl

/-- An answer changes the windows, the trackers and the outbound units only. -/
theorem answer_frame (p : Port) (m : Message) (w : WindowNo) (d : Device) :
    s.answer p m w d = { s with
      windows := (s.answer p m w d).windows
      trackers := (s.answer p m w d).trackers
      outbound := (s.answer p m w d).outbound } := by
  unfold answer
  rw [lowerUse_frame]
  rfl

theorem lowerUse_window (w v : WindowNo) :
    (s.lowerUse w).window v = if v = w then
      (if (s.window w).useCount = 1 ∧ (s.window w).swapPending = true then
        { s.window w with useCount := 0, activeBank := (s.window w).activeBank.flip, swapPending := false }
      else { s.window w with useCount := (s.window w).useCount - 1 })
    else s.window v := by
  obtain ⟨h₁, h₂, h⟩ | ⟨hn, h⟩ := s.lowerUse_cases w
  · rw [h, raise_window, window_setWindow]
    simp [h₁, h₂]
  · rw [h, window_setWindow]
    simp [hn]

@[simp] theorem lowerUse_trackers (w : WindowNo) : (s.lowerUse w).trackers = s.trackers := by
  rw [lowerUse_frame]

@[simp] theorem lowerUse_tracker (w : WindowNo) (d : Device) : (s.lowerUse w).tracker d = s.tracker d := by
  rw [lowerUse_frame]
  rfl

theorem lowerRef_tracker (d e : Device) :
    (s.lowerRef d).tracker e
      = if e = d then { s.tracker d with refCount := (s.tracker d).refCount - 1 } else s.tracker e :=
  tracker_setTracker _ _ _ _

/-- The trackers after an answer: one reference count is lower (R52). -/
theorem answer_tracker (p : Port) (m : Message) (w : WindowNo) (d e : Device) :
    (s.answer p m w d).tracker e
      = if e = d then { s.tracker d with refCount := (s.tracker d).refCount - 1 } else s.tracker e := by
  unfold answer
  rw [lowerUse_tracker, lowerRef_tracker]
  rfl

/-- The windows after an answer (R4, R26). -/
theorem answer_window (p : Port) (m : Message) (w : WindowNo) (d : Device) (v : WindowNo) :
    (s.answer p m w d).window v = if v = w then
      (if (s.window w).useCount = 1 ∧ (s.window w).swapPending = true then
        { s.window w with useCount := 0, activeBank := (s.window w).activeBank.flip, swapPending := false }
      else { s.window w with useCount := (s.window w).useCount - 1 })
    else s.window v := by
  unfold answer
  rw [lowerUse_window]
  rfl

/-! ## Intake (R113) -/

/-- What intake can do with a request: refuse it and leave a receipt, or accept it and hand it on (R121, R122). -/
theorem intake_cases (p : Port) (tag : Byte) (g : Group) (f : State → State) :
    (s.intakeVerdict p tag g ≠ .accepted ∧ s.intake p tag g f = s.writeReceipt p tag (s.intakeVerdict p tag g))
    ∨ (s.intakeVerdict p tag g = .accepted
      ∧ s.intake p tag g f = (f (s.accept p)).writeReceipt p tag .accepted) := by
  unfold intake
  by_cases h : s.intakeVerdict p tag g = .accepted
  · exact .inr ⟨h, by simp [h]⟩
  · exact .inl ⟨h, by simp [h]⟩

/-- An accepted request met every check (R113). -/
theorem accepted_iff (p : Port) (tag : Byte) (g : Group) :
    s.intakeVerdict p tag g = .accepted ↔
      s.part = .operating ∧ g ≠ .collect ∧ g ≠ .unknown ∧ tag ∉ s.outstandingTags p
        ∧ ¬ (g = .memory ∧ (s.queue p).length = Config.queueCapacity)
        ∧ (s.out p).sum ≠ Config.outboundCapacity := by
  unfold intakeVerdict
  split <;> rename_i h₁
  · simp [h₁]
  have hp : s.part = .operating := by
    cases h : s.part with
    | operating => rfl
    | resetting => exact absurd h h₁
  split <;> rename_i h₂
  · simp [h₂]
  split <;> rename_i h₃
  · simp [h₃]
  split <;> rename_i h₄
  · simp [h₄]
  split <;> rename_i h₅
  · simp [h₅]
  split <;> rename_i h₆
  · simp [h₆]
  · simp [hp, h₂, h₃, h₄, h₆]
    simpa using h₅

/-- The outcome of a powered event. -/
theorem powered_on (t : State) (h : s.power ≠ .off) : s.powered t = .next t := by simp [powered, h]

end State

/-! ## Recovery (R62) -/

namespace Tracker

variable (t : Tracker) (c : Cause)

@[simp] theorem recover_state : (t.recover c).state = .recovering := rfl
@[simp] theorem recover_stack : (t.recover c).stack
    = t.stack.map fun rec => { rec with deadlineDue := false, endStatus := some (rec.endStatus.getD .lost) } := rfl
@[simp] theorem recover_wantReset : (t.recover c).wantReset = true := rfl
@[simp] theorem recover_wantPoll : (t.recover c).wantPoll = false := rfl
@[simp] theorem recover_wantSuspend : (t.recover c).wantSuspend = false := rfl
@[simp] theorem recover_wantResume : (t.recover c).wantResume = false := rfl
@[simp] theorem recover_pollTimer : (t.recover c).pollTimer = none := rfl
@[simp] theorem recover_suspendSettle : (t.recover c).suspendSettle = none := rfl
@[simp] theorem recover_resetSettle : (t.recover c).resetSettle = t.resetSettle := rfl
@[simp] theorem recover_cause : (t.recover c).cause = some c := rfl
@[simp] theorem recover_timeouts : (t.recover c).timeouts = t.timeouts := rfl
@[simp] theorem recover_refCount : (t.recover c).refCount = t.refCount := rfl

/-- After entry into RECOVERING every record is ending (R62). -/
theorem recover_all_ending : ∀ rec ∈ (t.recover c).stack, rec.endStatus ≠ none := by
  simp

end Tracker

/-! ## Ticks, bytes of a frame and records of a port -/

/-- The three things a tick can do to a record (R55): raise its busy time below the limit, make its deadline due, or
nothing, the record being SUSPENDED or ending. -/
theorem OpRecord.tick_cases (rec : OpRecord) :
    (rec.counting = true ∧ rec.busyTime + 1 < rec.limit ∧ rec.tick = { rec with busyTime := rec.busyTime + 1 })
    ∨ (rec.counting = true ∧ rec.limit ≤ rec.busyTime + 1 ∧ rec.tick = { rec with deadlineDue := true })
    ∨ (rec.counting = false ∧ rec.tick = rec) := by
  unfold OpRecord.tick
  split
  · split
    · exact .inl ⟨‹_›, ‹_›, rfl⟩
    · exact .inr (.inl ⟨‹_›, Nat.le_of_not_lt ‹_›, rfl⟩)
  · exact .inr (.inr ⟨Bool.eq_false_iff.mpr ‹_›, rfl⟩)

/-- The byte count after one more byte (R143). -/
theorem countByte_eq {n : Nat} (h : n ≤ 267) : countByte n = min (n + 1) 267 := by
  unfold countByte Config.heldBytes
  split <;> omega

/-- Clock periods past the last whole byte shift out as many bits. -/
@[simp] theorem leadingBits_length (b : Byte) (x : Fin 8) : (leadingBits b x).length = x.val := by
  simp [leadingBits]

/-- No clock period past the last whole byte shifts out no bit. -/
@[simp] theorem leadingBits_zero (b : Byte) : leadingBits b 0 = [] := rfl

/-- The op records of all trackers are those of the stacks (R117). -/
theorem mem_records {s : State} {rec : OpRecord} : rec ∈ s.records ↔ ∃ d, rec ∈ (s.tracker d).stack := by
  simp only [State.records, List.mem_flatMap, State.tracker, Vector.mem_toList_iff, Vector.mem_iff_getElem]
  constructor
  · rintro ⟨t, ⟨i, h, rfl⟩, hr⟩
    exact ⟨⟨i, h⟩, hr⟩
  · rintro ⟨d, hr⟩
    exact ⟨s.trackers[d], ⟨d.val, d.isLt, rfl⟩, hr⟩

end Sys2Proof.Machine
end

