-- ==== Sys2Proof/Tests/Slice0.lean ====
section
/-! SUPPORT. Small tests: the well-formedness checks, words of the spec's examples, single steps of the worked
sequences, and for each statement with hypotheses a state that meets them (witness_…). -/

set_option maxRecDepth 20000

namespace Sys2Proof.Tests

open Sys2Proof Sys2Proof.Machine

/-! ## Helpers -/

/-- The next state of an outcome. -/
def after (o : Host.Outcome State Fault Refusal) : State :=
  match o with
  | .next s => s
  | _ => State.reset

/-- Commands taken in turn. -/
def run (l : List Instr) (s : State) : State := l.foldl (fun s c => after (exec c s)) s

/-- The outcome is a next state. -/
def goesOn : Host.Outcome State Fault Refusal → Bool
  | .next _ => true
  | _ => false

theorem next_after {o : Host.Outcome State Fault Refusal} (h : goesOn o = true) : o = .next (after o) := by
  cases o <;> first | rfl | cases h

theorem ports {P : Port → Prop} (h : P .A ∧ P .B) : ∀ p, P p := by
  intro p; cases p
  · exact h.1
  · exact h.2

theorem accepts {s : State} {p : Port} {tag : Byte}
    (h : s.power = .on ∧ s.part = .operating ∧ tag ∉ s.outstandingTags p
      ∧ (s.out p).sum < Config.outboundCapacity) : s.Accepts p tag := ⟨h.1, h.2.1, h.2.2.1, h.2.2.2⟩

theorem covers {s : State} {p : Port} {a : Nat} {w : WindowNo}
    (h : (s.window w).active = true ∧ (s.window w).owners.get p = true ∧ (s.window w).logicalBase.toNat ≤ a
      ∧ a < (s.window w).logicalBase.toNat + (s.window w).size) : s.Covers p a w := ⟨h.1, h.2.1, h.2.2.1, h.2.2.2⟩

/-- The profile of device 1 in 01 section 1.4, its other fields such as 11 uses. -/
def flash : ProfileRecord :=
  { present := 1, capacity := 20, addressBytes := 3, pageSize := 8, readCommand := 0x0B, readDummy := 1,
    writeEnable := 6, programCommand := 2, programLimit := 3000, statusCommand := 5, busyBit := 0, errorBit := 5,
    suspendedBit := 7, suspendFlags := 0x0F, suspendCommand := 0x75, resumeCommand := 0x7A, suspendLimit := 4,
    settleLimit := 100, pollInterval := 50, unitCount := 2, unit1 := ⟨12, 0x20, 400⟩, unit2 := ⟨16, 0xD8, 2000⟩,
    unit3 := ⟨0, 0, 0⟩, resetCount := 2, resetCode1 := 0x66, resetCode2 := 0x99, resetSettle := 40 }

/-- Window 2 of 01 section 1.4. -/
def window2 : WindowRecord :=
  { state := 1, owners := 3, device := 1, flags := 0x0B, rightsA := 1, rightsB := 7, useCount := 0,
    logicalBase := 0x400000, size := 64, bank0 := 0, bank1 := 0x40000 }

/-- The part of 01 section 1.4: window 2, device 1 present and IDLE, port A manager. -/
def base : State :=
  { State.reset with
    windows := State.reset.windows.set 2 window2.toWindow
    profiles := State.reset.profiles.set 1 flash.toProfile
    trackers := State.reset.trackers.set 1 { Tracker.cold with state := .idle } }

/-- A request of port B for device 1 through window 2. -/
def asked (work : Work) (tag : Byte) (start count : Nat) : Request :=
  { port := .B, tag := tag, work := work, window := 2, device := 1, start := start, count := count }

/-- An op record of port B on device 1. -/
def record (kind : OpKind) (tag : Byte) (start length : Nat) (st : RecordState) (ends : Option EndStatus) : OpRecord :=
  { port := .B, tag := tag, kind := kind, start := start, length := length,
    unit := match kind with | .erase => some 2 | .program => none, window := 2,
    limit := match kind with | .erase => 2000000 | .program => 3000, state := st, busyTime := 0, suspendCount := 0,
    abortMark := false, deadlineDue := false, endStatus := ends }

/-- The base part with requests waiting on port B, a job, and tracker 1 as given, and the counts that these
requests make. -/
def part (waiting : List Request) (job : Option JobKind) (t : Tracker) : State :=
  let n := waiting.length + (match job with | some (.request ..) => 1 | _ => 0) + t.stack.length
  { base with
    queues := { a := [], b := waiting }
    job := job.map fun k => { kind := k, selects := [] }
    windows := base.windows.set 2 { window2.toWindow with useCount := n }
    trackers := base.trackers.set 1 { t with refCount := n }
    outbound := { base.outbound with b := { base.outbound.b with reservations := n } } }

/-- A tracker in a state with a stack. -/
def holding (st : TrackerState) (stack : List OpRecord) : Tracker := { Tracker.cold with state := st, stack := stack }

/-- An ERASE of the unit at 60000h, running or suspended. -/
def erasing (st : RecordState) : OpRecord := record .erase 0x21 0x60000 0x10000 st none

/-- A reset sequence under way, tracker 1 in recovery. -/
def resetting (pin : Bool) (job : Option JobKind) (t : Tracker) : State :=
  { base with
    part := .resetting
    resetPin := pin
    job := job.map fun k => { kind := k, selects := [] }
    outbound := { a := .empty, b := .empty }
    trackers := base.trackers.set 1 t }

/-! ## Well-formedness -/

theorem test_program_of_257_bytes_refused :
    (Instr.program .A 0 0 (List.replicate 257 0)).wellFormed = false
    ∧ (Instr.program .A 0 0 (List.replicate 256 0)).wellFormed = true := by decide

theorem test_read_job_of_257_bytes_refused :
    (Instr.readJobComplete (List.replicate 257 0)).wellFormed = false
    ∧ (Instr.readJobComplete (List.replicate 256 0)).wellFormed = true := by decide

/-! ## Bytes (12 sections 12.6 and 12.7) -/

theorem test_check_of_one_zero_byte : crc [0x00] = 0xE1F0#16 := by decide

theorem test_shortest_null_frame :
    requestFrame (.null .A 0) = some [0x00, 0x00, 0x00, 0x00, 0x00, 0x00, 0x00, 0x00, 0x31, 0x3E]
    ∧ frameBytesValid [0x00, 0x00, 0x00, 0x00, 0x00, 0x00, 0x00, 0x00, 0x31, 0x3E] = true := by decide

theorem test_read_frame_of_example :
    (requestFrame (.read .A 0x10 0x00410000 4)).map (·.take 8)
      = some [0x01, 0x10, 0x00, 0x41, 0x00, 0x00, 0x00, 0x04] := by decide

theorem test_response_of_example :
    (Message.response .read 0x10 .done (.bytes [0x5A, 0x00, 0x12, 0x34])).bytes.take 9
      = [0x01, 0x10, 0x00, 0x00, 0x04, 0x5A, 0x00, 0x12, 0x34]
    ∧ (Message.response .read 0x10 .done (.bytes [0x5A, 0x00, 0x12, 0x34])).bytes.length = 11 := by decide

theorem test_denial_notice_of_example :
    (Message.notice (.denial 3)).bytes.take 7 = [0x80, 0x00, 0x05, 0x00, 0x02, 0x00, 0x03] := by decide

theorem test_records_valid : flash.valid = true ∧ window2.valid = true := by decide

/-! ## Single steps of 03 section 3.6 and 08 section 8.3 -/

theorem test_tick_before_limit_makes_deadline_due :
    let top := { erasing .running with busyTime := 1999999 }
    top.tick.busyTime = 1999999 ∧ top.tick.deadlineDue = true := by decide

theorem test_deadline_ends_at_the_limit :
    let top := { erasing .running with busyTime := 1999999, deadlineDue := true }
    (((after (exec (.deadlineExpiry 1) (part [] none (holding .running [top])))).tracker 1).stack.map
      fun x => (x.busyTime, x.endStatus)) = [(2000000, some .timeout)] := by decide

theorem test_poll_before_deadline_ends_done_below_limit :
    let top := { erasing .running with busyTime := 1999999, deadlineDue := true }
    let s := after (exec (.pollComplete (some 0)) (part [] (some (.tracker .poll 1)) (holding .running [top])))
    (s.tracker 1).state = .idle ∧ (s.out .B).queue.getLast? = some (.response .erase 0x21 .done .absent) := by decide

theorem test_partial_byte_shows_leading_bits :
    let f : Frame := { held := [], stream := [0xA5, 1], latched := none }
    ((run [.frameEnd .A 3]
      { base with links := base.links.set .A { base.link .A with select := .frame f } }).link .A).doutBits
      = [true, false, true] := by decide

/-! ## Single steps of 01 sections 1.4 and 1.6 -/

theorem test_read_translated :
    let s := after (exec (.read .A 1 0x00410000 256) base)
    (s.queue .A).map (fun r => (r.start, r.count)) = [(0x50000, 256)] ∧ (s.window 2).useCount = 1 := by decide

theorem test_program_denied :
    let s := after (exec (.program .A 2 0x00410000 (List.replicate 16 0)) base)
    (s.out .A).queue.drop 1 = [.response .program 2 .denied .absent, .notice (.denial 1)]
    ∧ s.denials.get .A = 1 := by decide

theorem test_program_boundary :
    ((after (exec (.program .B 3 0x0043FFF0 (List.replicate 32 0)) base)).out .B).queue.getLast?
      = some (.response .program 3 .boundary .absent) := by decide

theorem test_erase_unit_two :
    ((after (exec (.erase .B 4 0x00420000 64) base)).queue .B).map (fun r => (r.start, r.work))
      = [(0x60000, .erase 2)] := by decide

theorem test_erase_misaligned :
    ((after (exec (.erase .B 5 0x00404000 64) base)).out .B).queue.getLast?
      = some (.response .erase 5 .misaligned .absent) := by decide

theorem test_program_page_cross :
    ((after (exec (.program .B 6 0x004000F0 (List.replicate 32 0)) base)).out .B).queue.getLast?
      = some (.response .program 6 .pageCross .absent) := by decide

theorem test_swap_done_mask :
    let s := { part [asked .read 7 0 4] none (holding .idle []) with
      windows := base.windows.set 2 { window2.toWindow with useCount := 1, swapPending := true } }
    ((after (exec (.abort .A 9 .B 7) s)).out .A).queue.drop 1
      = [.response .abort 9 .done .absent, .notice (.swapDone 0x0004)] := by decide

theorem test_cold_start_ends_in_reset :
    run [.coldStart false false false, .coldStartEnd] base = State.reset := by decide

theorem test_no_word_spells_a_command : decodeTableWord 16 0 = none := by decide

/-! ## Witnesses: the queue, power, frames -/

theorem witness_StepTakesFrontCommand :
    ({ base with pending := [.clkPeriod, .busGrant] } : State).pending = .clkPeriod :: [.busGrant] ∧ base.pending = [] :=
  ⟨rfl, rfl⟩

/-- Cold start with the pin held, select A asserted and select B released. -/
def held : State := after (exec (.coldStart true true false) base)

theorem witness_ColdStart :
    (base.pending = held.pending ∧ base.freeCount = held.freeCount)
    ∧ held.power = .coldStart ∧ held.resetPin = true ∧ (∀ p, held.out p = Outbound.empty)
    ∧ (held.link .B).select = .released ∧ (held.link .A).select ≠ .released := by
  refine ⟨by decide, by decide, by decide, ports (by decide), by decide, by decide⟩

theorem witness_RequestFramesDecode :
    let i := Instr.program .B 0x21 0x400000 [1, 2, 3]
    i.wellFormed = true ∧ handed i = some (.B, 0x21, .program 0x400000 [1, 2, 3])
    ∧ requestFrame i = some (withCheck [2, 0x21, 0, 0x40, 0, 0, 0, 3, 1, 2, 3]) := by decide

/-- The shortest NULL frame. -/
def nullFrame : List Byte := [0x00, 0x00, 0x00, 0x00, 0x00, 0x00, 0x00, 0x00, 0x31, 0x3E]

theorem witness_CheckFindsOneWrongByte :
    frameBytesValid nullFrame = true ∧ 9 < nullFrame.length ∧ nullFrame[9]? ≠ some (0x3F : Byte) := by decide

/-- A frame that holds the bytes, its outbound stream latched from an empty queue. -/
def frameOf (bs : List Byte) : Frame := { held := bs, stream := [0, 0], latched := none }

/-- The base part with a frame in progress on link A. -/
def framed (f : Frame) : State :=
  let l : Link := { base.link .A with count := f.held.length, select := .frame f }
  { base with links := base.links.set .A l }

/-- Link A out of cold start with its select asserted: a select period that is no frame. -/
def unframed : State := run [.coldStartEnd] held

theorem witness_FramesBeginAndCollect :
    (base.power ≠ .off ∧ (base.link .A).select = .released)
    ∧ (framed (frameOf nullFrame)).power ≠ .off
    ∧ ((framed (frameOf nullFrame)).link .A).select = .frame (frameOf nullFrame)
    ∧ ((framed (frameOf nullFrame)).link .A).tidy
    ∧ unframed.power ≠ .off ∧ (unframed.link .A).select = .ignored := by
  refine ⟨by decide, by decide, by decide, ⟨by decide, fun f h => ?_⟩, by decide, by decide⟩
  cases h
  decide

theorem witness_InvalidFrameEnds :
    (∀ f, (framed f).power ≠ .off ∧ ((framed f).link .A).select = .frame f)
    ∧ (1 : Fin 8) ≠ 0 ∧ 266 < 267 ∧ frameBytesValid (frameOf (nullFrame.set 9 0)).held = false
    ∧ (unframed.link .A).select = .ignored ∧ unframed.power ≠ .off := by
  refine ⟨fun f => ⟨?_, rfl⟩, by decide, by decide, by decide, by decide, by decide⟩
  show Power.on ≠ .off
  decide

/-- A valid frame whose kind byte 7Fh names no kind. -/
def unknownFrame : Frame := frameOf (withCheck [0x7F, 5, 0, 0, 0, 0, 0, 0])

theorem witness_UnknownKindFrameEnds :
    (framed unknownFrame).power ≠ .off ∧ (framed unknownFrame).part = .operating
    ∧ ({ framed unknownFrame with part := .resetting } : State).part = .resetting
    ∧ ((framed unknownFrame).link .A).select = .frame unknownFrame ∧ ((framed unknownFrame).link .A).count ≤ 266
    ∧ frameBytesValid unknownFrame.held = true ∧ ∀ k : RequestKind, k.code ≠ unknownFrame.held.getD 0 0 := by
  refine ⟨by decide, by decide, by decide, by decide, by decide, by decide, fun k => ?_⟩
  cases k <;> decide

theorem witness_FrameEndRunsItsRequest :
    let f := frameOf ((requestFrame (.swap .A 1 2)).getD [])
    (framed f).power ≠ .off ∧ ((framed f).link .A).select = .frame f ∧ ((framed f).link .A).count ≤ 266
    ∧ frameBytesValid f.held = true
    ∧ handed (.swap .A 1 2) = some (.A, frameTag f.held, frameRequest f.held) := by decide

/-- The base part with its RESET_DONE notices collected. -/
def collected : State := { base with outbound := { a := .empty, b := .empty } }

theorem witness_WholeFrameIsItsRequest :
    (let i := Instr.swap .A 1 2
     i.wellFormed = true ∧ handed i = some (.A, 1, .swap 2) ∧ (requestFrame i).isSome = true)
    ∧ collected.power ≠ .off ∧ (collected.link .A).select = .released ∧ (collected.link .A).dout = none
    ∧ (collected.link .A).doutBits = [] ∧ (collected.out .A).queue = [] ∧ (collected.out .A).notices = .empty ∧ AttentionLaw collected := by
  refine ⟨by decide, by decide, by decide, by decide, by decide, by decide, by decide, ports (by decide)⟩

/-! ## Witnesses: intake and translation -/

/-- Four READs of port B, tags 0 to 3. -/
def fourReads : List Request := [0, 1, 2, 3].map fun t => asked .read t 0x50000 4

theorem witness_RefusedAtIntakeLeavesReceipt :
    (resetting false none Tracker.cold).part = .resetting ∧ base.part = .operating ∧ base.power ≠ .off
    ∧ handed (.null .A 9) = some (.A, 9, .null)
    ∧ handed (.read .B 9 0 4) = some (.B, 9, .read 0 4) ∧ (FrameRequest.read 0 4).isMemory = true
    ∧ (0 : Byte) ∈ (part fourReads none (holding .idle [])).outstandingTags .B
    ∧ (9 : Byte) ∉ (part fourReads none (holding .idle [])).outstandingTags .B
    ∧ ((part fourReads none (holding .idle [])).queue .B).length = 4
    ∧ (let s : State := { base with outbound := base.outbound.set .B { base.out .B with reservations := 7 } }
       (9 : Byte) ∉ s.outstandingTags .B ∧ (s.queue .B).length ≠ 4 ∧ (s.out .B).sum = 8) := by decide

theorem base_windows : WindowLaw base := by unfold WindowLaw; decide

theorem no_window (a : Nat) (h : ∀ w, ¬ ((base.window w).active = true ∧ (base.window w).owners.get .B = true
    ∧ (base.window w).logicalBase.toNat ≤ a ∧ a < (base.window w).logicalBase.toNat + (base.window w).size)) :
    ∀ w, ¬ base.Covers .B a w := fun w c => h w ⟨c.active, c.owner, c.lower, c.upper⟩

theorem witness_LookupFindsTheOneWindow :
    WindowLaw base ∧ base.Covers .B 0x400000 2 ∧ base.Covers .B 0x43FFFF 2
    ∧ (∀ w, ¬ base.Covers .B 0x3FFFFF w) ∧ (∀ w, ¬ base.Covers .B 0x440000 w)
    ∧ (base.window 2).logicalBase.toNat + (base.window 2).size ≤ 0x43FFFF + (Ask.read 2).count - 1
    ∧ (256 < 257 ∧ 256 < (List.replicate 257 (0 : Byte)).length) :=
  ⟨base_windows, covers (by decide), covers (by decide), no_window _ (by decide), no_window _ (by decide),
    by decide, by decide⟩

theorem witness_MissingRightIsDenied :
    WindowLaw base ∧ (∀ p, base.InRange p 0x43FF00 (.read 256) 2)
    ∧ (∀ p, base.InRange p 0x43FF00 (.program (List.replicate 256 0)) 2)
    ∧ (∀ p, base.InRange p 0x43F000 (.erase 4) 2)
    ∧ ((base.window 2).rights.get .A).program = false ∧ ((base.window 2).rights.get .B).program = true := by
  refine ⟨base_windows, ports ⟨?_, ?_⟩, ports ⟨?_, ?_⟩, ports ⟨?_, ?_⟩, by decide, by decide⟩
    <;> exact ⟨by decide, covers (by decide), by decide⟩

/-- The base part with window 2 in the middle of a swap, or device 1 otherwise than IDLE or smaller. -/
def swapping : State :=
  { base with windows := base.windows.set 2 { window2.toWindow with useCount := 1, swapPending := true } }
def with1 (st : TrackerState) : State := { base with trackers := base.trackers.set 1 (holding st []) }
def small : State := { base with profiles := base.profiles.set 1 { flash.toProfile with capacityLog := 16 } }

theorem reaches_read : base.Reaches .B 0x400000 (.read 256) 2 :=
  ⟨⟨by decide, covers (by decide), by decide⟩, by decide, by decide, by decide, by decide, by decide⟩

theorem reaches_program (n : Nat) (h : n = 16 ∨ n = 17) :
    base.Reaches .B 0x4000F0 (.program (List.replicate n 0)) 2 := by
  rcases h with rfl | rfl
    <;> exact ⟨⟨by decide, covers (by decide), by decide⟩, by decide, by decide, by decide, by decide, by decide⟩

theorem witness_DeviceAndPageChecks :
    (WindowLaw swapping ∧ swapping.InRange .B 0x400000 (.read 1) 2 ∧ swapping.right .B 2 (.read 1) = true
      ∧ (swapping.window 2).swapPending = true)
    ∧ (WindowLaw (with1 .offline) ∧ (with1 .offline).InRange .B 0x400000 (.read 1) 2
      ∧ ((with1 .offline).tracker ((with1 .offline).window 2).device).state = .offline)
    ∧ ((with1 .faulted).InRange .B 0x400000 (.read 1) 2
      ∧ ((with1 .faulted).tracker ((with1 .faulted).window 2).device).state = .faulted)
    ∧ (small.InRange .B 0x400000 (.read 1) 2
      ∧ 2 ^ (small.profile (small.window 2).device).capacityLog
        ≤ small.physicalStart 0x400000 2 + (Ask.read 1).count - 1)
    ∧ base.physicalStart 0x4000F0 2 / 256 = (base.physicalStart 0x4000F0 2 + 16 - 1) / 256
    ∧ base.physicalStart 0x4000F0 2 / 256 ≠ (base.physicalStart 0x4000F0 2 + 17 - 1) / 256 := by
  refine ⟨⟨by unfold WindowLaw; decide, ⟨by decide, covers (by decide), by decide⟩, by decide, by decide⟩,
    ⟨base_windows, ⟨by decide, covers (by decide), by decide⟩, by decide⟩,
    ⟨⟨by decide, covers (by decide), by decide⟩, by decide⟩,
    ⟨⟨by decide, covers (by decide), by decide⟩, by decide⟩, by decide, by decide⟩

theorem reaches_erase (a k : Nat)
    (h : (a = 0x420000 ∧ k = 64) ∨ (a = 0x404000 ∧ k = 64) ∨ (a = 0x404000 ∧ k = 32) ∨ (a = 0x404000 ∧ k = 0)) :
    base.Reaches .B a (.erase k) 2 := by
  rcases h with ⟨rfl, rfl⟩ | ⟨rfl, rfl⟩ | ⟨rfl, rfl⟩ | ⟨rfl, rfl⟩
    <;> exact ⟨⟨trivial, covers (by decide), by decide⟩, by decide, by decide, by decide, by decide, by decide⟩

theorem witness_EraseUnitMatched :
    let units := (base.profile (base.window 2).device).eraseUnits
    (∀ u ∈ units, 2 ^ u.sizeLog ≠ 1024 * 32) ∧ base.physicalStart 0x404000 2 % (1024 * 64) ≠ 0
    ∧ (units.map EraseUnit.sizeLog).Nodup ∧ (units[1]?).map EraseUnit.sizeLog = some 16
    ∧ base.physicalStart 0x420000 2 % 2 ^ 16 = 0 := by decide

theorem witness_MemoryRequestsAreQueued :
    base.Accepts .B 4 ∧ (base.queue .B).length < 4
    ∧ base.Reaches .B 0x400000 (.read (256 : Half).toNat) 2
    ∧ base.Reaches .B 0x4000F0 (.program (List.replicate 16 0)) 2
    ∧ base.Reaches .B 0x420000 (.erase (64 : Half).toNat) 2 :=
  ⟨accepts (by decide), by decide, reaches_read, reaches_program 16 (.inl rfl), reaches_erase _ _ (.inl ⟨rfl, rfl⟩)⟩

/-- Window 2 without report. -/
def silent : State := { base with windows := base.windows.set 2 { window2.toWindow with report := false } }

theorem witness_RefusedMemoryRequestIsAnswered :
    memoryAsk (.read .B 4 0x43FFFF 2) = some (.B, 4, 0x43FFFF, .read 2) ∧ base.Accepts .B 4
    ∧ silent.Accepts .B 4 ∧ (base.queue .B).length < 4
    ∧ base.check .B 4 0x43FFFF (.read 2) = .refused .boundary (some 2) ∧ (base.window 2).report = true
    ∧ silent.check .B 4 0x43FFFF (.read 2) = .refused .boundary (some 2) ∧ (silent.window 2).report = false
    ∧ base.check .B 4 0x440000 (.read 2) = .refused .noWindow none
    ∧ base.check .B 4 0x404000 (.erase 0) = .refused .misaligned (some 2)
    ∧ base.check .A 4 0x404000 (.erase 4) = .refused .denied (some 2) :=
  ⟨by decide, accepts (by decide), accepts (by decide), by decide, by decide, by decide, by decide, by decide,
    by decide, by decide, by decide⟩

/-! ## Witnesses: control requests -/

theorem base_attention : AttentionLaw base := ports (by decide)

/-- The base part frozen. -/
def frozen : State := { base with frozen := true }

theorem witness_TableWritesReplaceEntries :
    (AttentionLaw base ∧ base.Accepts base.manager 1 ∧ base.frozen = false ∧ (2 : Word).toNat = (2 : WindowNo).val
      ∧ (base.window 2).useCount = 0 ∧ (base.window 2).swapPending = false ∧ window2.valid = true
      ∧ (∀ m, m ≠ 2 → window2.toWindow.collides (base.window m) = false)
      ∧ ({ window2 with state := 0 } : WindowRecord).valid = true)
    ∧ (3 : Word).toNat = (3 : Device).val ∧ flash.valid = true
    ∧ (∀ d : Device, (d = 1 ∨ d = 3) →
      (base.tracker d).state ∈ [TrackerState.offline, .idle, .faulted] ∧ (base.tracker d).refCount = 0) :=
  ⟨⟨base_attention, accepts (by decide), by decide, by decide, by decide, by decide, by decide, by decide, by decide⟩,
    by decide, by decide, by decide⟩

theorem witness_OthersAreNotManager : AttentionLaw base ∧ base.Accepts .B 1 ∧ Port.B ≠ base.manager :=
  ⟨base_attention, accepts (by decide), by decide⟩

/-- A record for window 3 that overlaps window 2. -/
def onWindow2 : WindowRecord := { window2 with logicalBase := 0x43F000, size := 1 }

/-- The base part with a request of window 2 waiting. -/
def inUse : State := part [asked .read 7 0x40000 4] none (holding .idle [])

theorem witness_ManagerRequestsRefused :
    (AttentionLaw frozen ∧ frozen.Accepts frozen.manager 1 ∧ frozen.frozen = true)
    ∧ (AttentionLaw base ∧ base.Accepts base.manager 1 ∧ base.frozen = false)
    ∧ 15 < (16 : Word).toNat ∧ 3 < (4 : Word).toNat
    ∧ (AttentionLaw inUse ∧ inUse.Accepts inUse.manager 1 ∧ 0 < (inUse.window 2).useCount
      ∧ 0 < (inUse.tracker 1).refCount)
    ∧ ({ window2 with owners := 0 } : WindowRecord).valid = false
    ∧ (onWindow2.valid = true ∧ (2 : WindowNo) ≠ 3 ∧ onWindow2.toWindow.collides (base.window 2) = true
      ∧ (base.window 3).useCount = 0 ∧ (base.window 3).swapPending = false)
    ∧ (((with1 .running).tracker 1).state ∈ [TrackerState.running, .suspending, .suspended, .recovering]
      ∧ ({ flash with present := 2 } : ProfileRecord).valid = false)
    ∧ ((base.window 3).active = false ∧ (base.window 2).active = true ∧ (base.window 2).bank1 ≠ none
      ∧ (frozen.window 2).swapOpen = false)
    ∧ (AttentionLaw swapping ∧ swapping.Accepts swapping.manager 1 ∧ (swapping.window 2).swapPending = true
      ∧ (swapping.window 2).swapOpen = false)
    ∧ (1 : Half) ≠ base.epoch :=
  ⟨⟨ports (by decide), accepts (by decide), rfl⟩, ⟨base_attention, accepts (by decide), by decide⟩, by decide, by decide,
    ⟨ports (by decide), accepts (by decide), by decide, by decide⟩, by decide, by decide, by decide, by decide,
    ⟨ports (by decide), accepts (by decide), by decide, by decide⟩, by decide⟩

theorem witness_TableReadsReturnRecords :
    AttentionLaw base ∧ (∀ p, base.Accepts p 1) ∧ (15 : Word).toNat = (15 : WindowNo).val
    ∧ Port.A = base.manager ∧ (base.window 2).owners.get .B = true
    ∧ Port.B ≠ base.manager ∧ (base.window 15).owners.get .B = false
    ∧ 15 < (16 : Word).toNat ∧ (3 : Word).toNat = (3 : Device).val ∧ 3 < (4 : Word).toNat :=
  ⟨base_attention, ports ⟨accepts (by decide), accepts (by decide)⟩, by decide, by decide, by decide, by decide,
    by decide, by decide, by decide, by decide⟩

theorem witness_RecordsReadBack :
    window2.valid = true ∧ window2.state = 1 ∧ flash.valid = true ∧ flash.present = 1
    ∧ ({ window2 with state := 0 } : WindowRecord).state = 0
    ∧ ({ flash with present := 0 } : ProfileRecord).present = 0 := by decide

theorem witness_SwapFlipsOrDefers :
    (AttentionLaw base ∧ base.Accepts base.manager 1 ∧ (base.window 2).active = true ∧ (base.window 2).bank1 ≠ none
      ∧ base.frozen = false ∧ (base.window 2).swapPending = false ∧ (base.window 2).useCount = 0)
    ∧ AttentionLaw inUse ∧ inUse.Accepts inUse.manager 1 ∧ (inUse.window 2).active = true
    ∧ (inUse.window 2).bank1 ≠ none ∧ inUse.frozen = false ∧ (inUse.window 2).swapPending = false
    ∧ 0 < (inUse.window 2).useCount :=
  ⟨⟨base_attention, accepts (by decide), by decide⟩, ports (by decide), accepts (by decide), by decide⟩

/-- Window 2 swap-open, with swap pending. -/
def openSwap : State :=
  { base with windows :=
      base.windows.set 2 { window2.toWindow with swapOpen := true, useCount := 1, swapPending := true } }

theorem witness_FreezeAndHandover :
    AttentionLaw openSwap ∧ openSwap.Accepts openSwap.manager 1
    ∧ (∀ w, (openSwap.window w).swapPending = true → (openSwap.window w).swapOpen = true)
    ∧ openSwap.frozen = false :=
  ⟨ports (by decide), accepts (by decide), by decide, by decide⟩

theorem witness_StatusReadReports :
    AttentionLaw base ∧ (∀ p, base.Accepts p 1) ∧ (true = true → Port.A = base.manager)
    ∧ (false = true → Port.B = base.manager) :=
  ⟨base_attention, ports ⟨accepts (by decide), accepts (by decide)⟩, by decide, by decide⟩

theorem witness_AbortTakesWaitingRequest :
    inUse.Accepts .A 1 ∧ Port.A = inUse.manager ∧ TagLaw inUse ∧ asked .read 7 0x40000 4 ∈ inUse.queue .B :=
  ⟨accepts (by decide), by decide, ports (by decide), by decide⟩

/-- A READ job of port B in progress. -/
def reading : State := part [] (some (.request (asked .read 7 0x40000 4) false)) (holding .idle [])

theorem witness_AbortMarksJobOrFindsNothing :
    reading.Accepts .A 1 ∧ Port.A = reading.manager ∧ (∀ r ∈ reading.queue .B, r.tag ≠ 7)
    ∧ reading.job = some { kind := .request (asked .read 7 0x40000 4) false, selects := [] }
    ∧ (asked .read 7 0x40000 4).port = .B ∧ AttentionLaw reading ∧ (∀ r ∈ reading.queue .B, r.tag ≠ 8)
    ∧ (asked .read 7 0x40000 4).tag ≠ 8
    ∧ ∀ d, ∀ rec ∈ (reading.tracker d).stack, rec.port = .B → rec.tag = 8 → rec.endStatus ≠ none :=
  ⟨accepts (by decide), by decide, by decide, by decide, by decide, ports (by decide), by decide, by decide, by decide⟩

/-- An ERASE running on device 1. -/
def erasing1 : State := part [] none { holding .running [erasing .running] with pollTimer := some 50 }

theorem witness_AbortEndsOpRecord :
    erasing1.Accepts .A 1 ∧ Port.A = erasing1.manager ∧ TagLaw erasing1
    ∧ erasing .running ∈ (erasing1.tracker 1).stack ∧ (erasing .running).port = .B
    ∧ (erasing .running).endStatus = none :=
  ⟨accepts (by decide), by decide, ports (by decide), by decide, by decide, by decide⟩

/-! ## Witnesses: reset sequences -/

theorem witness_ResetSequencesBegin :
    erasing1.Accepts erasing1.manager 1 ∧ (erasing1.power = .on ∧ erasing1.resetPin = false)
    ∧ ((resetting true none (holding .recovering [])).power = .on
      ∧ (resetting true none (holding .recovering [])).resetPin = true)
    ∧ held.power = .coldStart
    ∧ ((framed (frameOf nullFrame)).link .A).select = .frame (frameOf nullFrame)
    ∧ ∀ f, (base.link .A).select ≠ .frame f :=
  ⟨accepts (by decide), by decide, by decide, by decide, by decide, fun f h => absurd h (by rintro ⟨⟩)⟩

theorem witness_ClearStepClears :
    (∀ pin : Bool, (resetting pin none (holding .recovering [])).power = .on
      ∧ (resetting pin none (holding .recovering [])).part = .resetting
      ∧ (resetting pin none (holding .recovering [])).clearStep = false
      ∧ (resetting pin none (holding .recovering [])).resetPin = pin) := by decide

theorem witness_SequenceEndAnnounces :
    let s : State := { resetting false none (holding .idle []) with clearStep := true }
    (s.power = .on ∧ s.part = .resetting ∧ s.clearStep = true ∧ s.job = none
      ∧ (∀ d, (s.tracker d).state ≠ .recovering)
      ∧ ∀ p, (s.out p).queue = [] ∧ (s.out p).reservations = 0 ∧ (s.out p).notices = .empty)
    ∧ (resetting false none (holding .recovering [])).clearStep = false
    ∧ ((resetting false none (holding .recovering [])).tracker 1).state = .recovering :=
  ⟨⟨by decide, by decide, by decide, by decide, by decide, ports (by decide)⟩, by decide, by decide⟩

/-! ## Witnesses: the bus -/

theorem witness_CommandSequences :
    0xFFFFFF < 256 ^ 3 ∧ (asked .read 7 0 4).work = .read ∧ (asked (.program [1]) 7 0 1).work = .program [1]
    ∧ (asked (.erase 2) 7 0 0x10000).work = .erase (1 + 1)
    ∧ flash.toProfile.eraseUnits[1]? = some { sizeLog := 16, command := 0xD8, limit := 2000000 }
    ∧ flash.toProfile.suspendResume = some (0x75, 0x7A) := by decide

/-- The base part with wants on tracker 1. -/
def wanting (st : TrackerState) (poll suspend resume reset : Bool) : State :=
  let t : Tracker := { Tracker.cold with
    state := st, wantPoll := poll, wantSuspend := suspend, wantResume := resume, wantReset := reset }
  { base with trackers := base.trackers.set 1 t }

theorem witness_TrackerJobsGrantedByClass :
    (∀ a b c d, (wanting .running a b c d).power ≠ .off ∧ (wanting .running a b c d).job = none
      ∧ ∀ e, e < 1 → ((wanting .running a b c d).tracker e).wantsAny = false)
    ∧ ((wanting .recovering false false false true).tracker 1).wantReset = true
    ∧ (let s := wanting .running true true false false
       (∀ e, (s.tracker e).wantReset = false) ∧ (s.tracker 1).wantSuspend = true)
    ∧ (let s := wanting .suspended false false true false
       (∀ e, (s.tracker e).wantReset = false) ∧ (s.tracker 1).wantSuspend = false ∧ (s.tracker 1).wantResume = true)
    ∧ (let s := wanting .running true false false false
       (∀ e, (s.tracker e).wantReset = false ∧ (s.tracker e).wantSuspend = false ∧ (s.tracker e).wantResume = false)
       ∧ (s.tracker 1).wantPoll = true) := by decide

theorem single {P : List Request → Request → List Request → Prop} (r : Request) (h : P [] r []) :
    ∀ pre x post, [r] = pre ++ x :: post → P pre x post := by
  intro pre x post e
  cases pre with
  | nil =>
    injection e with e₁ e₂
    subst e₁; subst e₂; exact h
  | cons y l => simp at e

/-- A READ for device 0, which is OFFLINE. -/
def elsewhere : Request := { asked .read 3 0 4 with device := 0 }

/-- A waiting READ of device 1 behind one that cannot go; port B was granted last. -/
def queued : State := part [elsewhere, asked .read 7 0x40000 4] none (holding .idle [])

theorem witness_RequestGrantedByAlternationAndAge :
    (queued.power ≠ .off ∧ queued.job = none ∧ (∀ d, (queued.tracker d).wantsAny = false)
      ∧ queued.queue .B = [elsewhere] ++ asked .read 7 0x40000 4 :: [] ∧ (asked .read 7 0x40000 4).port = .B
      ∧ (∀ x ∈ [elsewhere], x.device ≠ (asked .read 7 0x40000 4).device)
      ∧ queued.eligible (asked .read 7 0x40000 4) = true
      ∧ (∀ pre x post, [elsewhere] = pre ++ x :: post → (∀ y ∈ pre, y.device ≠ x.device) → queued.eligible x = false)
      ∧ Port.B = queued.lastGranted ∧ queued.queue .A = [])
    ∧ (let s := part [elsewhere] none (holding .idle [])
       s.job = none ∧ (∀ d, (s.tracker d).wantsAny = false) ∧ s.queue .A = []
       ∧ ∀ pre x post, s.queue .B = pre ++ x :: post → (∀ y ∈ pre, y.device ≠ x.device) → s.eligible x = false) :=
  ⟨⟨by decide, by decide, by decide, by decide, by decide, by decide, by decide, single _ fun _ => by decide,
      by decide, by decide⟩,
    by decide, by decide, by decide, single elsewhere fun _ => by decide⟩

theorem witness_ReadJobIsAnswered :
    ∀ m, let s := part [] (some (.request (asked .read 7 0x40000 4) m)) (holding .idle [])
      s.power ≠ .off ∧ s.part = .operating
      ∧ s.job = some { kind := .request (asked .read 7 0x40000 4) m, selects := [] }
      ∧ (asked .read 7 0x40000 4).work = .read := by decide

theorem witness_AnswerLowersCountsAndSwaps :
    ((swapping.window 2).useCount = 1 ∧ (swapping.window 2).swapPending = true)
    ∧ (part fourReads none (holding .idle [])).window 2 ≠ swapping.window 2
    ∧ ((part fourReads none (holding .idle [])).window 2).useCount ≠ 1 := by decide

/-- A PROGRAM or an ERASE of port B starting on device 1. -/
def starting (work : Work) (m : Bool) (t : Tracker) : State := part [] (some (.request (asked work 7 0x40000 4) m)) t

theorem witness_StartJobPushesRecord :
    (∀ m, let s := starting (.program [1, 2, 3, 4]) m (holding .suspended [erasing .suspended])
      s.power ≠ .off ∧ s.part = .operating
      ∧ s.job = some { kind := .request (asked (.program [1, 2, 3, 4]) 7 0x40000 4) m, selects := [] }
      ∧ (s.profile 1).programLimit = 3000 ∧ (s.tracker 1).state = .suspended)
    ∧ (∀ m, let s := starting (.erase 2) m (holding .idle [])
      s.job = some { kind := .request (asked (.erase 2) 7 0x40000 4) m, selects := [] }
      ∧ ((s.profile 1).eraseUnits[1]?).map EraseUnit.limit = some 2000000 ∧ (s.tracker 1).state = .idle)
    ∧ ((starting (.erase 2) true (holding .recovering [])).tracker 1).state = .recovering := by decide

/-- A job of tracker 1 in progress. -/
def polling (k : TrackerJob) (t : Tracker) : State := part [] (some (.tracker k 1)) t

theorem witness_PollEndsRecord :
    (let s := polling .poll (holding .running [erasing .running])
     s.power ≠ .off ∧ s.part = .operating ∧ s.job = some { kind := .tracker .poll 1, selects := [] }
     ∧ (s.tracker 1).stack = [erasing .running] ∧ (erasing .running).endStatus = none
     ∧ (s.tracker 1).state = .running ∧ (0x20 : Byte).getLsbD (s.profile 1).busyBit = false
     ∧ (s.profile 1).errorBit = some 5 ∧ (0x20 : Byte).getLsbD 5 = true ∧ (0 : Byte).getLsbD 5 = false)
    ∧ (let s := polling .poll (holding .suspending [erasing .suspending])
       (s.tracker 1).state = .suspending ∧ (s.profile 1).suspendedBit = some 7 ∧ (0 : Byte).getLsbD 7 = false) := by
  decide

theorem witness_PollGoesOnOrHolds :
    (let s := polling .poll (holding .running [erasing .running])
     s.power ≠ .off ∧ s.part = .operating ∧ s.job = some { kind := .tracker .poll 1, selects := [] }
     ∧ (s.tracker 1).stack = [erasing .running] ∧ (1 : Byte).getLsbD (s.profile 1).busyBit = true)
    ∧ (let s := polling .poll (holding .suspending [erasing .suspending])
       (s.tracker 1).state = .suspending ∧ (s.profile 1).suspendedBit = some 7
       ∧ (0x80 : Byte).getLsbD 7 = true ∧ (1 : Byte).getLsbD 7 = false)
    ∧ ((polling .poll (holding .recovering [])).tracker 1).state = .recovering := by decide

theorem witness_SuspendAndResumeComplete :
    (let s := polling .suspend (holding .running [erasing .running])
     s.power ≠ .off ∧ s.part = .operating ∧ s.job = some { kind := .tracker .suspend 1, selects := [] }
     ∧ (s.tracker 1).state = .running ∧ (s.tracker 1).stack = [erasing .running]
     ∧ (erasing .running).endStatus = none)
    ∧ (let s := polling .resume (holding .suspended [erasing .suspended])
       s.job = some { kind := .tracker .resume 1, selects := [] }
       ∧ (s.tracker 1).state = .suspended ∧ (s.tracker 1).stack = [erasing .suspended])
    ∧ (∀ k, k = TrackerJob.suspend ∨ k = .resume →
        (polling k (holding .recovering [])).job = some { kind := .tracker k 1, selects := [] }
        ∧ ((polling k (holding .recovering [])).tracker 1).state = .recovering) := by
  refine ⟨by decide, by decide, ?_⟩
  rintro k (rfl | rfl) <;> decide

/-- The two records of a stack in recovery, ended TIMEOUT and LOST. -/
def ended : List OpRecord :=
  [record .program 0x22 0x40000 16 .running (some .timeout), record .erase 0x21 0x60000 0x10000 .suspended (some .lost)]

theorem witness_ResetJobAnswersRecords :
    (let s := polling .reset (holding .recovering ended)
     s.power ≠ .off ∧ s.job = some { kind := .tracker .reset 1, selects := [] } ∧ s.part = .operating
     ∧ ∀ rec ∈ (s.tracker 1).stack, rec.endStatus ≠ none)
    ∧ (let s := resetting false (some (.tracker .reset 1)) (holding .recovering [])
       s.job = some { kind := .tracker .reset 1, selects := [] } ∧ (s.tracker 1).wantReset = false
       ∧ (s.tracker 1).stack = []) := by decide

theorem witness_CompletionsWithinResetDiscarded :
    (∀ work, let s := resetting false (some (.request (asked work 7 0x40000 4) false)) (holding .idle [])
      s.power = .on ∧ s.part = .resetting
      ∧ s.job = some { kind := .request (asked work 7 0x40000 4) false, selects := [] }
      ∧ (s.tracker 1).state = .idle)
    ∧ Work.erase 2 ≠ .read
    ∧ ((resetting false (some (.request (asked (.erase 2) 7 0x40000 4) false)) (holding .recovering [])).tracker 1).state
        = .recovering
    ∧ (∀ k, let s := resetting false (some (.tracker k 1)) { holding .recovering [] with wantReset := true }
      s.job = some { kind := .tracker k 1, selects := [] } ∧ (s.tracker 1).wantReset = true) :=
  ⟨fun _ => ⟨rfl, rfl, rfl, rfl⟩, by decide, by decide, fun _ => ⟨rfl, rfl⟩⟩

/-! ## Witnesses: time -/

theorem witness_TimersCountAndExpire :
    (base.power ≠ .off ∧ base.timeBase ≠ 63) ∧ ({ base with timeBase := 63 } : State).timeBase = 63
    ∧ (let s := part [] none { holding .running [erasing .running] with pollTimer := some 0 }
       s.power ≠ .off ∧ (s.tracker 1).pollTimer = some 0)
    ∧ (erasing1.tracker 1).pollTimer ≠ some 0 := by decide

theorem witness_TimeoutsEnterRecovering :
    (∀ due, let top := { erasing .running with busyTime := 1999999, deadlineDue := due }
      let s := part [] none (holding .running [top])
      s.power ≠ .off ∧ (s.tracker 1).stack = top :: [] ∧ top.endStatus = none ∧ (s.tracker 1).state = .running
      ∧ top.state ≠ .suspended ∧ top.deadlineDue = due)
    ∧ (∀ settle, let s := part [] none { holding .suspending [erasing .suspending] with suspendSettle := settle }
      s.power ≠ .off ∧ (s.tracker 1).stack = erasing .suspending :: [] ∧ (erasing .suspending).endStatus = none
      ∧ (s.tracker 1).state = .suspending ∧ (s.tracker 1).suspendSettle = settle) :=
  ⟨fun _ => ⟨by simp [part, base, State.reset, State.cold], rfl, rfl, rfl, by simp [erasing, record], rfl⟩,
    fun _ => ⟨by simp [part, base, State.reset, State.cold], rfl, rfl, rfl, rfl⟩⟩

/-- Tracker 1 at the end of a recovery. -/
def settled (cause : Cause) (timeouts : Nat) : State :=
  part [] none { holding .recovering [] with resetSettle := some 0, cause := some cause, timeouts := timeouts }

theorem witness_RecoveryEndsIdle :
    (settled .timeout 2).power ≠ .off ∧ ((settled .timeout 2).tracker 1).state = .recovering
    ∧ ((settled .timeout 2).tracker 1).resetSettle = some 0 ∧ ((settled .timeout 2).tracker 1).timeouts ≠ 3
    ∧ ((settled .aborted 2).tracker 1).cause ≠ some .timeout := by decide

theorem witness_QuarantineDrainsQueues :
    (settled .timeout 3).power ≠ .off ∧ ((settled .timeout 3).tracker 1).state = .recovering
    ∧ ((settled .timeout 3).tracker 1).resetSettle = some 0
    ∧ ((settled .timeout 3).tracker 1).cause = some .timeout ∧ ((settled .timeout 3).tracker 1).timeouts = 3 := by
  decide

/-! ## Witnesses: the laws -/

/-- An ERASE of port B runs on device 1, with a READ of port B waiting that may suspend it, and a tick is next. -/
def busy : State :=
  { part [asked .read 0x22 0x40000 4] none
      { holding .running [erasing .running] with pollTimer := some 50, wantSuspend := true } with
    pending := [.timeBaseTick] }

theorem busy_steps : step busy = .next (after (step busy)) := next_after (by decide)

theorem busy_ledger : LedgerLaw busy :=
  ⟨ports (by decide), by unfold UseCountLaw; decide, by unfold RefCountLaw; decide, ports (by decide),
    fun h => absurd h (by decide), fun h => absurd (show busy.power = .on by decide) h⟩

theorem witness_LedgerKept : LedgerLaw busy ∧ step busy = .next (after (step busy)) := ⟨busy_ledger, busy_steps⟩

theorem witness_OutboundLawsKept :
    LedgerLaw busy ∧ OutboundLaws busy ∧ step busy = .next (after (step busy)) :=
  ⟨busy_ledger,
    ⟨ports (by decide), ports (by decide), ports (by decide),
      ports ⟨⟨by decide, fun f h => absurd h (by rintro ⟨⟩)⟩, ⟨by decide, fun f h => absurd h (by rintro ⟨⟩)⟩⟩,
      ports ⟨fun f n h => absurd h (by rintro ⟨⟩), fun f n h => absurd h (by rintro ⟨⟩)⟩⟩, busy_steps⟩

theorem witness_TagsAndQueuesKept :
    LedgerLaw busy ∧ QueueCapacityLaw busy ∧ TagLaw busy ∧ step busy = .next (after (step busy)) :=
  ⟨busy_ledger, ports (by decide), ports (by decide), busy_steps⟩

theorem witness_WindowLawsKept : WindowLaws busy ∧ step busy = .next (after (step busy)) := by
  refine ⟨⟨by unfold WindowLaw; decide, ?_, by unfold SwapLaw; decide, fun h => absurd h (by decide)⟩, busy_steps⟩
  have h : ∀ w : WindowNo, w ≠ 2 → busy.window w = .empty := by decide
  intro w
  by_cases e : w = 2
  · subst e
    unfold Window.wellFormed
    rw [if_pos (by decide)]
    refine ⟨by decide, ports (by decide), by decide, by decide, by decide, by decide, by decide, by decide, by decide,
      fun b hb => ?_⟩
    cases Option.some.inj (show some 0x40000#32 = some b from hb)
    decide
  · rw [h w e]; rfl

theorem witness_TrackerLawsKept : TrackerLaws busy ∧ step busy = .next (after (step busy)) := by
  have h : ∀ d : Device, d ≠ 1 → busy.tracker d = .cold := by decide
  refine ⟨⟨busy_ledger, fun d => ?_, fun d => ?_, by unfold OfflineLaw; decide, by unfold SuspendLimitLaw; decide,
    by unfold TimeoutLaw; decide, by unfold DeadlineLaw; decide, fun d e => ?_, fun j e => absurd e (by rintro ⟨⟩),
    fun _ e => absurd e (by decide)⟩, busy_steps⟩
  · by_cases e : d = 1
    · subst e
      exact .inl ⟨erasing .running, by decide⟩
    · rw [h d e]; rfl
  · by_cases e : d = 1
    · subst e
      exact ⟨by decide, by decide, by decide, by decide, by decide, by decide, by decide, by decide⟩
    · rw [h d e]
      exact ⟨by decide, by decide, by decide, by decide, by decide, by decide, by decide, by decide⟩
  · have never : ∀ d : Device, (busy.tracker d).state ≠ .faulted := by decide
    exact absurd e (never d)

theorem witness_WindowsChangeOnlyUnused :
    (Instr.swap .A 1 2).isPower = false
    ∧ exec (.swap .A 1 2) base = .next (after (exec (.swap .A 1 2) base))
    ∧ ((after (exec (.swap .A 1 2) base)).window 2).activeBank ≠ (base.window 2).activeBank
    ∧ (let c := Instr.windowWrite .A 1 2 { window2 with state := 0 }
       c.isPower = false ∧ exec c base = .next (after (exec c base))
       ∧ ¬ sameConfig (base.window 2) ((after (exec c base)).window 2)) :=
  ⟨by decide, next_after (by decide), by decide, by decide, next_after (by decide), fun h => absurd h.1 (by decide)⟩

theorem witness_FrozenConfigurationKept :
    (let s : State := { openSwap with frozen := true }
     FreezeLaw s ∧ s.frozen = true ∧ exec (.swap .A 1 2) s = .next (after (exec (.swap .A 1 2) s)))
    ∧ (Instr.swap .A 1 2).isPower = false ∧ (base.window 2).swapOpen = false :=
  ⟨⟨fun _ => by decide, rfl, next_after (by decide)⟩, by decide, by decide⟩

theorem witness_OnlyTheManagerConfigures :
    (Instr.handover .A 1).isPower = false
    ∧ exec (.handover .A 1) base = .next (after (exec (.handover .A 1) base))
    ∧ (after (exec (.handover .A 1) base)).manager ≠ base.manager :=
  ⟨by decide, next_after (by decide), by decide⟩

theorem witness_JobRunsToItsCompletion :
    let c := Instr.abort .A 1 .B 7
    reading.job = some { kind := .request (asked .read 7 0x40000 4) false, selects := [] }
    ∧ exec c reading = .next (after (exec c reading)) ∧ c.isPower = false ∧ c ≠ .resetPinAssert
    ∧ (∀ l, c ≠ .readJobComplete l) ∧ c ≠ .startJobComplete ∧ (∀ b, c ≠ .pollComplete b)
    ∧ c ≠ .suspendComplete ∧ c ≠ .resumeComplete ∧ c ≠ .resetJobComplete :=
  ⟨by decide, next_after (by decide), by decide, by decide, by rintro l ⟨⟩, by decide, by rintro b ⟨⟩, by decide, by decide, by decide⟩

end Sys2Proof.Tests
end

section
/-! SUPPORT. The ledger of unanswered requests, with the reservation a request holds while it is being handled. -/

namespace Sys2Proof.Machine

/-! ## What an answer and an enqueued request do to the counts -/

namespace State

variable (s : State)

theorem lowerUse_reservations (w : WindowNo) (q : Port) :
    ((s.lowerUse w).out q).reservations = (s.out q).reservations := by
  obtain ⟨_, _, h⟩ | ⟨_, h⟩ := s.lowerUse_cases w
  · rw [h, raise_out]
    split
    · next e => subst e; rfl
    · rfl
  · rw [h, setWindow_out]

/-- The reservations after an answer: one fewer on its port (R132). -/
theorem answer_reservations (p : Port) (m : Message) (w : WindowNo) (d : Device) (q : Port) :
    ((s.answer p m w d).out q).reservations
      = if q = p then (s.out p).reservations - 1 else (s.out q).reservations := by
  unfold answer
  rw [lowerUse_reservations]
  show ((s.respond p m).out q).reservations = _
  rw [respond_out]
  split <;> rfl

/-- The use counts after an answer: one lower for its window (R4). -/
theorem answer_useCount (p : Port) (m : Message) (w : WindowNo) (d : Device) (v : WindowNo) :
    ((s.answer p m w d).window v).useCount
      = if v = w then (s.window w).useCount - 1 else (s.window v).useCount := by
  rw [answer_window]
  split
  · split
    · next h => simp [h.1]
    · rfl
  · rfl

theorem enqueue_window (r : Request) (w : WindowNo) :
    (s.enqueue r).window w = if w = r.window then
      { s.window r.window with useCount := (s.window r.window).useCount + 1 } else s.window w := by
  unfold enqueue
  simp only [setTracker_window, window_setWindow, setQueue_window]

theorem enqueue_tracker (r : Request) (d : Device) :
    (s.enqueue r).tracker d = if d = r.device then
      { s.tracker r.device with refCount := (s.tracker r.device).refCount + 1 } else s.tracker d := by
  unfold enqueue
  simp only [tracker_setTracker, setWindow_tracker, setQueue_tracker]

theorem enqueue_queue (r : Request) (p : Port) :
    (s.enqueue r).queue p = if p = r.port then s.queue p ++ [r] else s.queue p := by
  unfold enqueue
  simp only [setTracker_queue, setWindow_queue, queue_setQueue]
  split
  · next e => rw [e]
  · rfl

@[simp] theorem enqueue_out (r : Request) (p : Port) : (s.enqueue r).out p = s.out p := rfl
@[simp] theorem enqueue_flight (r : Request) : (s.enqueue r).flight = s.flight := rfl

end State

/-! ## Counts over a list of entries -/

/-- The three counts of a state count the entries of a list, and the reservations besides those of the ports in `held`:
the reservations of requests that are being handled in this event. -/
structure State.Tally (s : State) (held : List Port) (l : List Owed) : Prop where
  reservations : ∀ p, (s.out p).reservations = held.count p + l.countP (·.port = p)
  useCounts : ∀ w, (s.window w).useCount = l.countP (·.window = w)
  refCounts : ∀ d, (s.tracker d).refCount = l.countP (·.device = d)

namespace State.Tally

variable {s t : State} {held : List Port} {l l' : List Owed}

theorem perm (h : s.Tally held l) (hp : l.Perm l') : s.Tally held l' :=
  ⟨fun p => by rw [h.reservations, hp.countP_eq], fun w => by rw [h.useCounts, hp.countP_eq],
    fun d => by rw [h.refCounts, hp.countP_eq]⟩

/-- Two states with the same three counts have the same tally. -/
theorem of_counts (h : s.Tally held l) (ho : ∀ p, (t.out p).reservations = (s.out p).reservations)
    (hw : ∀ w, (t.window w).useCount = (s.window w).useCount)
    (ht : ∀ d, (t.tracker d).refCount = (s.tracker d).refCount) : t.Tally held l :=
  ⟨fun p => (ho p).trans (h.reservations p), fun w => (hw w).trans (h.useCounts w),
    fun d => (ht d).trans (h.refCounts d)⟩

/-- An accepted request holds a reservation (R122). -/
theorem accept (h : s.Tally held l) (p : Port) : (s.accept p).Tally (p :: held) l where
  reservations q := by
    have := h.reservations q
    rw [State.accept_out, List.count_cons]
    by_cases e : q = p
    · subst e; simp [this]; omega
    · simp [e, this, Ne.symm e]
  useCounts := h.useCounts
  refCounts := h.refCounts

/-- A response takes the place of the reservation held for it (R132). -/
theorem respond {p : Port} (h : s.Tally (p :: held) l) (m : Message) : (s.respond p m).Tally held l where
  reservations q := by
    have := h.reservations q
    rw [List.count_cons] at this
    rw [State.respond_out]
    by_cases e : q = p
    · subst e; simp at this ⊢; omega
    · simp [e, this, Ne.symm e]
  useCounts := h.useCounts
  refCounts := h.refCounts

/-- An answer to a translated request takes its entry from all three counts (R4, R52, R132). -/
theorem answer {o : Owed} (h : s.Tally held (o :: l)) (m : Message) :
    (s.answer o.port m o.window o.device).Tally held l where
  reservations p := by
    have := h.reservations p
    rw [List.countP_cons] at this
    rw [State.answer_reservations]
    by_cases e : p = o.port
    · simp [← e] at this ⊢; omega
    · simp [Ne.symm e] at this; simp [e, this]
  useCounts w := by
    have := h.useCounts w
    rw [List.countP_cons] at this
    rw [State.answer_useCount]
    by_cases e : w = o.window
    · simp [← e] at this ⊢; omega
    · simp [Ne.symm e] at this; simp [e, this]
  refCounts d := by
    have := h.refCounts d
    rw [List.countP_cons] at this
    rw [State.answer_tracker]
    by_cases e : d = o.device
    · simp [← e] at this ⊢; omega
    · simp [Ne.symm e] at this; simp [e, this]

/-- A translated request that joins its queue is counted three times, its reservation being held for it (R17). -/
theorem enqueue {r : Request} (h : s.Tally (r.port :: held) l) : (s.enqueue r).Tally held (r.owed :: l) where
  reservations p := by
    have := h.reservations p
    rw [List.count_cons] at this
    rw [List.countP_cons, State.enqueue_out, this]
    by_cases e : p = r.port
    · subst e; simp [Request.owed]; omega
    · simp [Request.owed, Ne.symm e]
  useCounts w := by
    have := h.useCounts w
    rw [List.countP_cons, State.enqueue_window]
    by_cases e : w = r.window
    · subst e; simp [Request.owed, this]
    · simp [Request.owed, e, Ne.symm e, this]
  refCounts d := by
    have := h.refCounts d
    rw [List.countP_cons, State.enqueue_tracker]
    by_cases e : d = r.device
    · subst e; simp [Request.owed, this]
    · simp [Request.owed, e, Ne.symm e, this]

/-- The records of a list, all on one device, are answered in turn (R63). -/
theorem answerAll {d : Device} {recs : List OpRecord} (h : s.Tally held (recs.map (OpRecord.owed d) ++ l)) :
    (s.answerAll d recs).Tally held l := by
  induction recs generalizing s with
  | nil => exact h
  | cons rec rest ih => exact ih (h.answer (o := rec.owed d) _)

/-- The waiting requests of a list are answered in turn (R66). -/
theorem answerFaults {rs : List Request} (h : s.Tally held (rs.map Request.owed ++ l)) :
    (s.answerFaults rs).Tally held l := by
  induction rs generalizing s with
  | nil => exact h
  | cons r rest ih => exact ih (h.answer (o := r.owed) _)

/-- Nothing is unanswered where every count is 0. -/
theorem nil (ho : ∀ p, (s.out p).reservations = 0) (hw : ∀ w, (s.window w).useCount = 0)
    (hd : ∀ d, (s.tracker d).refCount = 0) : s.Tally [] [] :=
  ⟨fun p => by simp [ho], fun w => by simp [hw], fun d => by simp [hd]⟩

end State.Tally

/-! ## The unanswered requests after an update -/

namespace State

variable (s : State) {t : State}

theorem flight_eq (hp : t.part = s.part) (hj : t.job = s.job) : t.flight = s.flight := by
  unfold flight
  rw [hp, hj]

/-- The unanswered requests are those of the queues, of the job in progress and of the stacks. -/
theorem owed_congr (hq : ∀ p, t.queue p = s.queue p) (hf : t.flight = s.flight)
    (hs : ∀ d, (t.tracker d).stack.map (OpRecord.owed d) = (s.tracker d).stack.map (OpRecord.owed d)) :
    t.owed = s.owed := by
  simp only [owed, hq, hf, hs]

/-- Requests that leave a port queue. -/
theorem owed_of_leave_queue (p : Port) {left stay : List Request} (h : (s.queue p).Perm (left ++ stay)) :
    s.owed.Perm (left.map Request.owed ++ (s.setQueue p stay).owed) := by
  have hq := h.map Request.owed
  rw [List.perm_iff_count] at hq ⊢
  intro o
  have := hq o
  simp only [owed, setQueue_tracker, List.count_append, List.map_append] at this ⊢
  have hf : (s.setQueue p stay).flight = s.flight := rfl
  cases p <;> simp only [hf, queue_setQueue] <;> simp <;> omega

/-- A request that joins a port queue. -/
theorem owed_enqueue (r : Request) : (s.enqueue r).owed.Perm (r.owed :: s.owed) := by
  have hs : ∀ d, ((s.enqueue r).tracker d).stack = (s.tracker d).stack := fun d => by
    rw [enqueue_tracker]
    split
    · next e => rw [e]
    · rfl
  rw [List.perm_iff_count]
  intro o
  simp only [owed, hs, enqueue_queue, enqueue_flight, List.count_append, List.count_cons]
  cases r.port <;> simp [List.count_cons] <;> omega

/-- Another stack on one device: what leaves on the one side comes back on the other. -/
theorem owed_setTracker (d : Device) (v : Tracker) :
    ((s.setTracker d v).owed ++ (s.tracker d).stack.map (OpRecord.owed d)).Perm
      (s.owed ++ v.stack.map (OpRecord.owed d)) := by
  have hf : (s.setTracker d v).flight = s.flight := rfl
  rw [List.perm_iff_count]
  intro o
  simp only [owed, hf, setTracker_queue, tracker_setTracker, allDevices, List.flatMap_cons, List.flatMap_nil,
    List.count_append]
  fin_cases d <;> simp <;> omega

end State

/-! ## The ledger -/

/-- A tracker after an update that answers no record and loses none: its reference count and its records' entries
stay. -/
structure Tracker.Keeps (t t' : Tracker) : Prop where
  refCount : t'.refCount = t.refCount
  stack : ∀ d, t'.stack.map (OpRecord.owed d) = t.stack.map (OpRecord.owed d)

theorem Tracker.Keeps.refl (t : Tracker) : t.Keeps t := ⟨rfl, fun _ => rfl⟩

/-- An update that moves no request and no count. In a part that discards it queues no message and sets no cause
(R186), and before the end of cold start it leaves the bus and the trackers as they are (R185). -/
structure State.Quiet (s t : State) : Prop where
  power : t.power = s.power
  part : t.part = s.part
  queues : ∀ p, t.queue p = s.queue p
  flight : t.flight = s.flight
  trackers : ∀ d, (s.tracker d).Keeps (t.tracker d)
  useCounts : ∀ w, (t.window w).useCount = (s.window w).useCount
  reservations : ∀ p, (t.out p).reservations = (s.out p).reservations
  silent : s.part = .resetting → ∀ p, (s.out p).queue = [] → (s.out p).notices = .empty →
    (t.out p).queue = [] ∧ (t.out p).notices = .empty
  causes : s.part = .resetting → ∀ d, (s.tracker d).stack = [] → (s.tracker d).cause = none →
    (t.tracker d).cause = none
  cold : s.power ≠ .on → s.job = none → (∀ d, s.tracker d = .cold) → t.job = none ∧ ∀ d, t.tracker d = .cold

/-- The ledger within an event: the counts count every unanswered request, and the requests being handled hold the
reservations of the ports in `held`. -/
structure State.Ledger (s : State) (held : List Port) : Prop where
  tally : s.Tally held s.owed
  ports : QueuePortLaw s
  discard : DiscardLaw s
  cold : ColdLaw s

theorem ledgerLaw_iff {s : State} : LedgerLaw s ↔ s.Ledger [] := by
  have count : ∀ (q : Owed → Prop) [DecidablePred q], (s.owed.filter fun o => q o).length = s.owed.countP (q ·) :=
    fun q _ => (List.countP_eq_length_filter ..).symm
  constructor
  · intro h
    exact ⟨⟨fun p => by rw [h.reservations p, count, List.count_nil, Nat.zero_add],
      fun w => by rw [h.useCounts w, count], fun d => by rw [h.refCounts d, count]⟩, h.ports, h.discard, h.cold⟩
  · intro h
    exact ⟨fun p => by rw [count, h.tally.reservations, List.count_nil, Nat.zero_add],
      fun w => by rw [count, h.tally.useCounts], fun d => by rw [count, h.tally.refCounts],
      h.ports, h.discard, h.cold⟩

namespace State

variable {s t : State} {held : List Port}

/-- An update that leaves the blocks of the ledger alone. -/
theorem Quiet.of_eq (hpower : t.power = s.power) (hpart : t.part = s.part) (hjob : t.job = s.job)
    (hqueues : t.queues = s.queues) (hwindows : t.windows = s.windows) (houts : t.outbound = s.outbound)
    (htrackers : t.trackers = s.trackers) : s.Quiet t where
  power := hpower
  part := hpart
  queues p := by simp only [queue, hqueues]
  flight := s.flight_eq hpart hjob
  trackers d := by simp only [tracker, htrackers]; exact .refl _
  useCounts w := by simp only [window, hwindows]
  reservations p := by simp only [out, houts]
  silent _ p hq hn := by simp only [out, houts] at hq hn ⊢; exact ⟨hq, hn⟩
  causes _ d _ hc := by simp only [tracker, htrackers] at hc ⊢; exact hc
  cold _ hj ht := ⟨hjob.trans hj, fun d => by simpa only [tracker, htrackers] using ht d⟩

theorem Quiet.owed (h : s.Quiet t) : t.owed = s.owed :=
  s.owed_congr h.queues h.flight fun d => (h.trackers d).stack d

/-- The ledger outlives every update that moves no request and no count. -/
theorem Ledger.quiet (h : s.Ledger held) (hq : s.Quiet t) : t.Ledger held where
  tally := hq.owed ▸ h.tally.of_counts hq.reservations hq.useCounts fun d => (hq.trackers d).refCount
  ports p r hr := h.ports p r (hq.queues p ▸ hr)
  discard hp := by
    obtain ⟨hports, hdevices⟩ := h.discard (hq.part ▸ hp)
    refine ⟨fun p => ?_, fun d => ?_⟩
    · obtain ⟨hqueue, hout, hres, hnot⟩ := hports p
      obtain ⟨hout', hnot'⟩ := hq.silent (hq.part ▸ hp) p hout hnot
      exact ⟨(hq.queues p).trans hqueue, hout', (hq.reservations p).trans hres, hnot'⟩
    · obtain ⟨hstack, hcause⟩ := hdevices d
      have hs := (hq.trackers d).stack d
      rw [hstack, List.map_nil, List.map_eq_nil_iff] at hs
      exact ⟨hs, hq.causes (hq.part ▸ hp) d hstack hcause⟩
  cold hp := by
    obtain ⟨hpart, hjob, htrackers⟩ := h.cold (hq.power ▸ hp)
    exact ⟨hq.part.trans hpart, hq.cold (hq.power ▸ hp) hjob htrackers⟩

/-- In operation the ledger is the tally and the ports of the queues. -/
theorem Ledger.of_operating (hpart : t.part = .operating) (hpower : t.power = .on) (tally : t.Tally held t.owed)
    (ports : QueuePortLaw t) : t.Ledger held where
  tally := tally
  ports := ports
  discard h := absurd (hpart.symm.trans h) nofun
  cold h := absurd hpower h

/-- A part in operation has ended its cold start. -/
theorem Ledger.power_on (h : s.Ledger held) (hpart : s.part = .operating) : s.power = .on := by
  by_contra hp
  exact absurd (hpart.symm.trans (h.cold hp).1) nofun

/-- A part with a job in progress has ended its cold start. -/
theorem Ledger.power_on_of_job (h : s.Ledger held) {j : Job} (hj : s.job = some j) : s.power = .on := by
  by_contra hp
  exact absurd (hj.symm.trans (h.cold hp).2.1) nofun

/-! ## Updates that move no request -/

theorem Quiet.setLink (p : Port) (v : Link) : s.Quiet (s.setLink p v) := .of_eq rfl rfl rfl rfl rfl rfl rfl
theorem Quiet.writeReceipt (p : Port) (tag : Byte) (c : ReceiptCode) : s.Quiet (s.writeReceipt p tag c) :=
  .of_eq rfl rfl rfl rfl rfl rfl rfl
theorem Quiet.countFree (n : Nat) : s.Quiet (s.countFree n) := .of_eq rfl rfl rfl rfl rfl rfl rfl
theorem Quiet.setProfile (d : Device) (v : Profile) : s.Quiet (s.setProfile d v) := .of_eq rfl rfl rfl rfl rfl rfl rfl
theorem Quiet.raiseDenials (p : Port) : s.Quiet (s.raiseDenials p) := .of_eq rfl rfl rfl rfl rfl rfl rfl
theorem Quiet.clearCounts : s.Quiet s.clearCounts := .of_eq rfl rfl rfl rfl rfl rfl rfl
theorem Quiet.clear : s.Quiet s.clear := .of_eq rfl rfl rfl rfl rfl rfl rfl

/-- Other outbound units with the same reservations, nothing being queued in a part that discards. -/
theorem Quiet.of_outs {v : PerPort Outbound} (hr : ∀ p, (v.get p).reservations = (s.out p).reservations)
    (hs : s.part = .resetting → ∀ p, (s.out p).queue = [] → (s.out p).notices = .empty →
      (v.get p).queue = [] ∧ (v.get p).notices = .empty) : s.Quiet { s with outbound := v } where
  power := rfl
  part := rfl
  queues _ := rfl
  flight := rfl
  trackers _ := .refl _
  useCounts _ := rfl
  reservations := hr
  silent := hs
  causes _ _ _ h := h
  cold _ hj ht := ⟨hj, ht⟩

theorem Quiet.setOut {p : Port} {v : Outbound} (hr : v.reservations = (s.out p).reservations)
    (hs : s.part = .resetting → (s.out p).queue = [] → (s.out p).notices = .empty →
      v.queue = [] ∧ v.notices = .empty) : s.Quiet (s.setOut p v) := by
  refine .of_outs (fun q => ?_) fun hp q hq hn => ?_
  · rw [PerPort.get_set]
    split
    · next e => rw [e, hr]
    · rfl
  · rw [PerPort.get_set]
    split
    · next e => subst e; exact hs hp hq hn
    · exact ⟨hq, hn⟩

/-- A notice is raised outside a reset sequence. -/
theorem Quiet.raise (hp : s.part = .operating) (p : Port) (n : Notice) : s.Quiet (s.raise p n) :=
  .setOut rfl fun h => absurd (hp.symm.trans h) nofun

theorem Quiet.moveNotices (p : Port) : s.Quiet (s.moveNotices p) :=
  .setOut (Outbound.moveNotices_reservations _) fun _ hq hn => by
    rw [Outbound.moveNotices_of_quiet _ (.inl hn)]
    exact ⟨hq, hn⟩

theorem Quiet.driveAttention : s.Quiet s.driveAttention :=
  .of_outs (fun p => by cases p <;> rfl) fun _ p hq hn => by cases p <;> exact ⟨hq, hn⟩

/-- A window replaced by one with the same use count. -/
theorem Quiet.setWindow {w : WindowNo} {v : Window} (h : v.useCount = (s.window w).useCount) :
    s.Quiet (s.setWindow w v) where
  power := rfl
  part := rfl
  queues _ := rfl
  flight := rfl
  trackers _ := .refl _
  useCounts n := by
    rw [window_setWindow]
    split
    · next e => rw [e, h]
    · rfl
  reservations _ := rfl
  silent _ _ hq hn := ⟨hq, hn⟩
  causes _ _ _ h := h
  cold _ hj ht := ⟨hj, ht⟩

/-- Every tracker replaced by one that keeps its records and its reference count. -/
theorem Quiet.of_trackers {l : Vector Tracker 4} (h : ∀ d : Device, (s.tracker d).Keeps l[d])
    (hc : s.part = .resetting → ∀ d : Device, (s.tracker d).stack = [] → (s.tracker d).cause = none →
      (l[d]).cause = none)
    (hcold : s.power ≠ .on → ∀ d : Device, s.tracker d = .cold → l[d] = .cold) :
    s.Quiet { s with trackers := l } where
  power := rfl
  part := rfl
  queues _ := rfl
  flight := rfl
  trackers := h
  useCounts _ := rfl
  reservations _ := rfl
  silent _ _ hq hn := ⟨hq, hn⟩
  causes := hc
  cold hp hj ht := ⟨hj, fun d => hcold hp d (ht d)⟩

/-- A tracker replaced by one that keeps its records and its reference count. -/
theorem Quiet.setTracker {d : Device} {v : Tracker} (h : (s.tracker d).Keeps v)
    (hc : s.part = .resetting → (s.tracker d).stack = [] → (s.tracker d).cause = none → v.cause = none)
    (hcold : s.power ≠ .on → s.tracker d = .cold → v = .cold) : s.Quiet (s.setTracker d v) := by
  have hv := s.tracker_setTracker (e := d) (v := v)
  refine .of_trackers (fun e => ?_) (fun hp e hs hn => ?_) fun hp e ht =>
    show (s.setTracker d v).tracker e = _ from ?_
  · show (s.tracker e).Keeps ((s.setTracker d v).tracker e)
    rw [hv]
    split
    · next x => subst x; exact h
    · exact .refl _
  · show ((s.setTracker d v).tracker e).cause = none
    rw [hv]
    split
    · next x => subst x; exact hc hp hs hn
    · exact hn
  · rw [hv]
    split
    · next x => subst x; exact hcold hp ht
    · exact ht

theorem Quiet.reconsider : s.Quiet s.reconsider := by
  have ht : ∀ d : Device, (s.trackers.mapFinIdx fun i t h => s.rewant ⟨i, h⟩ t)[d] = s.rewant d (s.tracker d) :=
    s.reconsider_tracker
  refine .of_trackers (fun d => ?_) (fun _ d _ hc => ?_) fun _ d h => ?_
  · rw [ht]
    exact ⟨rfl, fun _ => rfl⟩
  · rw [ht]
    exact hc
  · rw [ht, h]
    rfl

theorem Ledger.reconsider (h : s.Ledger held) : s.reconsider.Ledger held := h.quiet .reconsider

theorem Ledger.close (h : s.Ledger held) : s.close.Ledger held :=
  ((h.reconsider.quiet (.moveNotices .A)).quiet (.moveNotices .B)).quiet .driveAttention

/-! ## Intake and requests -/

/-- A request is accepted: its reservation is held for it (R122). -/
theorem Ledger.accept (h : s.Ledger held) (hpart : s.part = .operating) (p : Port) :
    (s.accept p).Ledger (p :: held) :=
  .of_operating hpart (h.power_on hpart) (h.tally.accept p) h.ports

/-- A response is queued, and takes the reservation held for it (R132). -/
theorem Ledger.respond {p : Port} (h : s.Ledger (p :: held)) (hpart : s.part = .operating) (m : Message) :
    (s.respond p m).Ledger held :=
  .of_operating hpart (h.power_on hpart) (h.tally.respond m) h.ports

theorem Ledger.reply {p : Port} (h : s.Ledger (p :: held)) (hpart : s.part = .operating) (k : RequestKind)
    (tag : Byte) (st : Status) (data : ResponseData) : (s.reply p k tag st data).Ledger held :=
  (h.respond hpart _).quiet .driveAttention

/-- An answer to a request that has left its place among the unanswered ones (R4, R52, R132). -/
theorem Ledger.of_answer {o : Owed} (htally : s.Tally held (o :: s.owed)) (hports : QueuePortLaw s)
    (hpart : s.part = .operating) (hpower : s.power = .on) (m : Message) :
    (s.answer o.port m o.window o.device).Ledger held := by
  have hframe := s.answer_frame o.port m o.window o.device
  have howed : (s.answer o.port m o.window o.device).owed = s.owed :=
    s.owed_congr (fun p => by rw [hframe]; rfl) (s.flight_eq (by rw [hframe]) (by rw [hframe])) fun d => by
      rw [answer_tracker]
      split
      · next e => rw [e]
      · rfl
  exact .of_operating (by rw [hframe]; exact hpart) (by rw [hframe]; exact hpower) (howed ▸ htally.answer m)
    (by rw [hframe]; exact hports)

/-- A translated request joins its queue with the reservation held for it (R17). -/
theorem Ledger.enqueue {r : Request} (h : s.Ledger (r.port :: held)) (hpart : s.part = .operating) :
    (s.enqueue r).Ledger held := by
  refine .of_operating hpart (h.power_on hpart) (h.tally.enqueue.perm (s.owed_enqueue r).symm) fun p x hx => ?_
  rw [enqueue_queue] at hx
  split at hx
  · next e =>
    rcases List.mem_append.mp hx with hx | hx
    · exact h.ports p x hx
    · rw [List.mem_singleton.mp hx, e]
  · exact h.ports p x hx

end State

end Sys2Proof.Machine
end

section
/-! SUPPORT. What each command does to the ledger of unanswered requests. -/

namespace Sys2Proof.Machine

/-- A written window is not in use. -/
theorem toWindow_useCount (r : WindowRecord) : r.toWindow.useCount = 0 := by
  unfold WindowRecord.toWindow
  split <;> rfl

/-- A written window has no swap pending. -/
theorem toWindow_swapPending (r : WindowRecord) : r.toWindow.swapPending = false := by
  unfold WindowRecord.toWindow
  split <;> rfl

namespace State

variable {s t : State} {held : List Port}

/-! ## What the checks of the control requests find -/

/-- WINDOW_WRITE passes its checks (R20). -/
theorem windowWriteCheck_inr {p : Port} {number : Word} {r : WindowRecord} {n : WindowNo}
    (h : s.windowWriteCheck p number r = .inr n) :
    p = s.manager ∧ s.frozen = false ∧ windowNumber number = some n ∧ (s.window n).useCount = 0
      ∧ (s.window n).swapPending = false ∧ r.valid = true ∧ s.wouldOverlap n r.toWindow = false := by
  unfold windowWriteCheck at h
  split at h
  · cases h
  split at h
  · cases h
  split at h
  · cases h
  next hp hf _ m hm =>
    split at h
    · cases h
    split at h
    · cases h
    split at h
    · cases h
    next hu hv ho =>
      cases h
      simp only [not_or, not_lt, Nat.le_zero, Bool.not_eq_true, Bool.not_eq_false, not_not] at hp hf hu hv ho
      exact ⟨hp, hf, hm, hu.1, hu.2, hv, ho⟩

theorem wouldOverlap_iff {n : WindowNo} {v : Window} :
    s.wouldOverlap n v = true ↔ ∃ m, m ≠ n ∧ v.collides (s.window m) = true := by
  simp [wouldOverlap]

/-- SWAP passes its checks (R24). -/
theorem swapCheck_inr {p : Port} {number : Word} {n : WindowNo} (h : s.swapCheck p number = .inr n) :
    p = s.manager ∧ windowNumber number = some n ∧ (s.window n).active = true ∧ (s.window n).bank1 ≠ none
      ∧ (s.frozen = true → (s.window n).swapOpen = true) ∧ (s.window n).swapPending = false := by
  unfold swapCheck at h
  split at h
  · cases h
  split at h
  · cases h
  next hp _ m hm =>
    dsimp only at h
    split at h
    · cases h
    split at h
    · cases h
    split at h
    · cases h
    next ha hf hs =>
      cases h
      simp only [not_or, not_and, Bool.not_eq_true, not_not, Option.isNone_iff_eq_none, Bool.not_eq_false]
        at hp ha hf hs
      exact ⟨hp, hm, ha.1, ha.2, hf, hs⟩

/-- The target of an ABORT that waits is in the queue of its port (R171). -/
theorem findTarget_waiting {p : Port} {tag : Byte} {r : Request} (h : s.findTarget p tag = .waiting r) :
    r ∈ s.queue p := by
  unfold findTarget at h
  split at h
  · next x hx =>
    cases h
    exact List.mem_of_find?_eq_some hx
  · split at h
    · cases h
    · split at h <;> cases h

/-! ## The requests -/

theorem Ledger.raise (h : s.Ledger held) (hpart : s.part = .operating) (p : Port) (n : Notice) :
    (s.raise p n).Ledger held :=
  h.quiet (.raise hpart p n)

theorem Ledger.setWindow (h : s.Ledger held) {w : WindowNo} {v : Window} (hv : v.useCount = (s.window w).useCount) :
    (s.setWindow w v).Ledger held :=
  h.quiet (.setWindow hv)

theorem Ledger.intake {p : Port} {tag : Byte} {g : Group} {f : State → State} (h : s.Ledger [])
    (hf : ∀ s' : State, s'.part = .operating → s'.Ledger [p] → (f s').Ledger []) : (s.intake p tag g f).Ledger [] := by
  obtain ⟨_, e⟩ | ⟨hv, e⟩ := s.intake_cases p tag g f
  · rw [e]
    exact h.quiet (.writeReceipt ..)
  · rw [e]
    obtain ⟨hpart, _⟩ := (s.accepted_iff p tag g).mp hv
    exact (hf (s.accept p) hpart (h.accept hpart p)).quiet (.writeReceipt ..)

theorem findWindow_covers {p : Port} {a : Nat} {w : WindowNo} (h : s.findWindow p a = some w) :
    (s.window w).covers p a = true :=
  (List.find?_eq_some_iff_append.mp h).1

/-- A translated request is of the port that asked for it, and goes through an ACTIVE window with no swap pending
(R9, R12, R17). -/
theorem translate_translated {p : Port} {tag : Byte} {a : Word} {ask : Ask} {r : Request}
    (h : s.translate p tag a ask = .translated r) :
    r.port = p ∧ (s.window r.window).active = true ∧ (s.window r.window).swapPending = false := by
  unfold translate at h
  split at h
  · cases h
  · next w hw =>
    have hc := findWindow_covers hw
    simp only [Window.covers, Bool.and_eq_true] at hc
    dsimp only at h
    split at h
    · cases h
    split at h
    · cases h
    split at h
    · cases h
    next hs =>
      repeat' split at h
      all_goals cases h
      exact ⟨rfl, hc.1.1.1, Bool.eq_false_iff.mpr hs⟩

theorem check_translated {p : Port} {tag : Byte} {a : Word} {ask : Ask} {r : Request}
    (h : s.check p tag a ask = .translated r) :
    r.port = p ∧ (s.window r.window).active = true ∧ (s.window r.window).swapPending = false := by
  unfold check at h
  split at h
  · exact translate_translated h
  · cases h

theorem Ledger.refuse {p : Port} (h : s.Ledger (p :: held)) (hpart : s.part = .operating) (tag : Byte)
    (k : RequestKind) (st : Status) (w : Option WindowNo) : (s.refuse p tag k st w).Ledger held := by
  have hr := h.respond hpart (plainResponse k tag st)
  unfold State.refuse raiseDenialNotice
  dsimp only
  split
  · split
    · exact (hr.quiet (.raiseDenials p)).raise hpart ..
    · exact hr.quiet (.raiseDenials p)
  · exact hr

theorem Ledger.memoryRequest {p : Port} (hpart : s.part = .operating) (h : s.Ledger [p]) (tag : Byte) (a : Word)
    (ask : Ask) : (s.memoryRequest p tag a ask).Ledger [] := by
  unfold State.memoryRequest
  split
  · exact (h.refuse hpart ..).close
  · next r hr =>
    obtain ⟨rfl, _⟩ := check_translated hr
    exact (h.enqueue hpart).close

theorem Ledger.windowWriteDo {p : Port} (hpart : s.part = .operating) (h : s.Ledger [p]) (tag : Byte) (n : Word)
    (r : WindowRecord) : (s.windowWriteDo p tag n r).Ledger [] := by
  unfold State.windowWriteDo
  split
  · exact h.reply hpart ..
  · next hn =>
    obtain ⟨_, _, _, hu, _⟩ := windowWriteCheck_inr hn
    exact (h.setWindow (by rw [hu, toWindow_useCount])).reply hpart ..

theorem Ledger.windowReadDo {p : Port} (hpart : s.part = .operating) (h : s.Ledger [p]) (tag : Byte) (n : Word) :
    (s.windowReadDo p tag n).Ledger [] := by
  unfold State.windowReadDo
  split
  · exact h.reply hpart ..
  · split <;> exact h.reply hpart ..

theorem Ledger.swapDo {p : Port} (hpart : s.part = .operating) (h : s.Ledger [p]) (tag : Byte) (n : Word) :
    (s.swapDo p tag n).Ledger [] := by
  unfold State.swapDo
  split
  · exact h.reply hpart ..
  · dsimp only
    split
    · exact (h.setWindow (by rfl)).reply hpart ..
    · exact (h.setWindow (by rfl)).reply hpart ..

theorem Ledger.setTracker_operating (h : s.Ledger held) (hpart : s.part = .operating) {d : Device} {v : Tracker}
    (hv : (s.tracker d).Keeps v) : (s.setTracker d v).Ledger held :=
  h.quiet (.setTracker hv (fun x => absurd (hpart.symm.trans x) nofun) fun x => absurd (h.power_on hpart) x)

theorem Ledger.profileWriteDo {p : Port} (hpart : s.part = .operating) (h : s.Ledger [p]) (tag : Byte) (n : Word)
    (r : ProfileRecord) : (s.profileWriteDo p tag n r).Ledger [] := by
  unfold State.profileWriteDo
  split
  · exact h.reply hpart ..
  · next d _ =>
    refine Ledger.reply ((h.quiet (.setProfile d _)).setTracker_operating hpart ?_) hpart ..
    exact ⟨rfl, fun _ => rfl⟩

theorem Ledger.profileReadDo {p : Port} (hpart : s.part = .operating) (h : s.Ledger [p]) (tag : Byte) (n : Word) :
    (s.profileReadDo p tag n).Ledger [] := by
  unfold State.profileReadDo
  split <;> exact h.reply hpart ..

theorem Ledger.freezeDo {p : Port} (hpart : s.part = .operating) (h : s.Ledger [p]) (tag : Byte) :
    (s.freezeDo p tag).Ledger [] := by
  have hq : s.Quiet { s with frozen := true } := .of_eq rfl rfl rfl rfl rfl rfl rfl
  unfold State.freezeDo
  split
  · exact h.reply hpart ..
  · split
    · exact h.reply hpart ..
    · exact (h.quiet hq).reply hpart ..

theorem Ledger.handoverDo {p : Port} (hpart : s.part = .operating) (h : s.Ledger [p]) (tag : Byte) :
    (s.handoverDo p tag).Ledger [] := by
  have hq : s.Quiet { s with manager := p.other } := .of_eq rfl rfl rfl rfl rfl rfl rfl
  unfold State.handoverDo
  split
  · exact h.reply hpart ..
  · split
    · exact h.reply hpart ..
    · exact ((((h.quiet hq).respond hpart _).raise hpart ..).raise hpart ..).close

theorem Ledger.statusReadDo {p : Port} (hpart : s.part = .operating) (h : s.Ledger [p]) (tag : Byte) (c : Bool) :
    (s.statusReadDo p tag c).Ledger [] := by
  unfold State.statusReadDo
  split
  · exact h.reply hpart ..
  · cases c
    · exact h.reply hpart ..
    · exact (h.quiet .clearCounts).reply hpart ..

/-! ## ABORT (R171 to R175) -/

theorem abortIfTarget_owed (d : Device) (p : Port) (tag : Byte) (rec : OpRecord) :
    (rec.abortIfTarget p tag).owed d = rec.owed d := by
  unfold OpRecord.abortIfTarget
  split <;> rfl

theorem keeps_recover (t : Tracker) (c : Cause) : t.Keeps (t.recover c) :=
  ⟨rfl, fun d => by simp [OpRecord.owed]⟩

theorem keeps_abortRecord (t : Tracker) (p : Port) (tag : Byte) : t.Keeps (t.abortRecord p tag) := by
  unfold Tracker.abortRecord
  refine ⟨rfl, fun d => ?_⟩
  rw [(keeps_recover _ _).stack d, List.map_map]
  exact List.map_congr_left fun rec _ => abortIfTarget_owed d p tag rec

/-- The abort mark leaves the request that is in flight (R173, R174). -/
theorem flight_mark : (s.setJob (s.job.map Job.mark)).flight = s.flight := by
  unfold flight
  rw [setJob_part]
  rcases hj : s.job with _ | ⟨_ | _, _⟩ <;> cases s.part <;> rfl

theorem Quiet.setJob {j : Option Job} (hf : (s.setJob j).flight = s.flight)
    (hj : s.power ≠ .on → s.job = none → j = none) : s.Quiet (s.setJob j) where
  power := rfl
  part := rfl
  queues _ := rfl
  flight := hf
  trackers _ := .refl _
  useCounts _ := rfl
  reservations _ := rfl
  silent _ _ hq hn := ⟨hq, hn⟩
  causes _ _ _ h := h
  cold hp hjob ht := ⟨hj hp hjob, ht⟩

/-- Requests that leave a port queue leave the others where they are (R125). -/
theorem ports_of_leave (h : QueuePortLaw s) {p : Port} {stay : List Request} (hs : stay ⊆ s.queue p) :
    QueuePortLaw (s.setQueue p stay) := by
  intro q x hx
  rw [queue_setQueue] at hx
  split at hx
  · next e => exact h q x (e ▸ hs hx)
  · exact h q x hx

/-- A waiting request leaves its queue and is answered (R172). -/
theorem Ledger.answer_waiting (h : s.Ledger held) (hpart : s.part = .operating) {p : Port} {r : Request}
    (hr : r ∈ s.queue p) (m : Message) :
    ((s.setQueue p ((s.queue p).erase r)).answer p m r.window r.device).Ledger held := by
  have hp := h.ports p r hr
  subst hp
  exact Ledger.of_answer (s := s.setQueue r.port ((s.queue r.port).erase r)) (o := r.owed)
    (.of_counts (h.tally.perm (s.owed_of_leave_queue r.port (left := [r]) (List.perm_cons_erase hr)))
      (fun _ => rfl) (fun _ => rfl) fun _ => rfl)
    (ports_of_leave h.ports List.erase_subset) hpart (h.power_on hpart) m

theorem answer_part (p : Port) (m : Message) (w : WindowNo) (d : Device) : (s.answer p m w d).part = s.part := by
  rw [answer_frame]

theorem Ledger.abortDo {p : Port} (hpart : s.part = .operating) (h : s.Ledger [p]) (tag : Byte) (q : Port)
    (u : Byte) : (s.abortDo p tag q u).Ledger [] := by
  unfold State.abortDo
  split
  · exact h.reply hpart ..
  split
  · exact h.reply hpart ..
  · generalize ht : s.findTarget q u = target
    cases target with
    | notFound => exact (h.respond hpart _).close
    | waiting r =>
      exact ((h.answer_waiting hpart (findTarget_waiting ht) _).respond ((answer_part ..).trans hpart) _).close
    | inJob r =>
      exact ((h.quiet (.setJob flight_mark fun _ hj => by rw [hj]; rfl)).respond hpart _).close
    | record d => exact ((h.setTracker_operating hpart (keeps_abortRecord _ q u)).respond hpart _).close

/-! ## The beginning of a reset sequence and power -/

/-- A part in which every block is empty meets the ledger. -/
theorem Ledger.of_empty (hpart : s.part = .resetting) (hqueues : ∀ p, s.queue p = [])
    (houts : ∀ p, (s.out p).queue = [] ∧ (s.out p).reservations = 0 ∧ (s.out p).notices = .empty)
    (huse : ∀ w, (s.window w).useCount = 0)
    (htrackers : ∀ d, (s.tracker d).stack = [] ∧ (s.tracker d).cause = none ∧ (s.tracker d).refCount = 0)
    (hcold : ColdLaw s) : s.Ledger [] where
  tally := by
    have hflight : s.flight = [] := by
      unfold flight
      rw [hpart]
    have howed : s.owed = [] := by simp [owed, hqueues, hflight, htrackers]
    rw [howed]
    exact .nil (fun p => (houts p).2.1) huse fun d => (htrackers d).2.2
  ports p r hr := by rw [hqueues] at hr; cases hr
  discard _ := ⟨fun p => ⟨hqueues p, (houts p).1, (houts p).2.1, (houts p).2.2⟩,
    fun d => ⟨(htrackers d).1, (htrackers d).2.1⟩⟩
  cold := hcold

@[simp] theorem discard_window (w : WindowNo) : s.discard.window w = (s.window w).discard := by
  simp [discard, window]

@[simp] theorem discard_queue (p : Port) : s.discard.queue p = [] := by cases p <;> rfl
@[simp] theorem discard_out (p : Port) : s.discard.out p = .empty := by cases p <;> rfl

@[simp] theorem warmBegin_tracker (d : Device) : s.warmBegin.tracker d = (s.tracker d).warm := by
  simp [warmBegin, tracker]

@[simp] theorem pinBegin_tracker (d : Device) : s.pinBegin.tracker d = (s.tracker d).pinned (s.profile d) := by
  simp [pinBegin, tracker]

/-- Every tracker that a reset sequence takes over is emptied (R178, R183). -/
theorem warm_eq (t : Tracker) : ∃ st want, t.warm = takenOver st want := by
  unfold Tracker.warm
  split <;> exact ⟨_, _, rfl⟩

theorem pinned_eq (t : Tracker) (prof : Profile) : ∃ st, t.pinned prof = takenOver st false := by
  unfold Tracker.pinned
  split <;> exact ⟨_, rfl⟩

theorem Ledger.warmBegin (hpower : s.power = .on) : s.warmBegin.Ledger [] := by
  refine .of_empty rfl s.discard_queue (fun p => ?_) (fun w => ?_) (fun d => ?_) fun hp => absurd hpower hp
  · rw [show s.warmBegin.out p = .empty from s.discard_out p]
    exact ⟨rfl, rfl, rfl⟩
  · show (s.discard.window w).useCount = 0
    rw [discard_window]
    rfl
  · obtain ⟨st, want, e⟩ := warm_eq (s.tracker d)
    rw [warmBegin_tracker, e]
    exact ⟨rfl, rfl, rfl⟩

theorem Ledger.pinBegin (hpower : s.power = .on) : s.pinBegin.Ledger [] := by
  refine .of_empty rfl s.discard_queue (fun p => ?_) (fun w => ?_) (fun d => ?_) fun hp => absurd hpower hp
  · rw [show s.pinBegin.out p = .empty from s.discard_out p]
    exact ⟨rfl, rfl, rfl⟩
  · show (s.discard.window w).useCount = 0
    rw [discard_window]
    rfl
  · obtain ⟨st, e⟩ := pinned_eq (s.tracker d) (s.profile d)
    rw [pinBegin_tracker, e]
    exact ⟨rfl, rfl, rfl⟩

@[simp] theorem cold_window (w : WindowNo) (power : Power) (pin a b : Bool) (l : List Instr) (n : Nat) :
    (cold power pin a b l n).window w = .empty := by simp [cold, window]
@[simp] theorem cold_tracker (d : Device) (power : Power) (pin a b : Bool) (l : List Instr) (n : Nat) :
    (cold power pin a b l n).tracker d = .cold := by simp [cold, tracker]
@[simp] theorem cold_queue (p : Port) (power : Power) (pin a b : Bool) (l : List Instr) (n : Nat) :
    (cold power pin a b l n).queue p = [] := by cases p <;> rfl
@[simp] theorem cold_out (p : Port) (power : Power) (pin a b : Bool) (l : List Instr) (n : Nat) :
    (cold power pin a b l n).out p = .empty := by cases p <;> rfl

theorem Ledger.of_cold (power : Power) (pin a b : Bool) (l : List Instr) (n : Nat) :
    (State.cold power pin a b l n).Ledger [] := by
  refine .of_empty rfl (fun p => cold_queue p ..) (fun p => ?_) (fun w => ?_) (fun d => ?_)
    fun _ => ⟨rfl, rfl, fun d => cold_tracker d ..⟩
  · rw [cold_out]
    exact ⟨rfl, rfl, rfl⟩
  · rw [cold_window]
    rfl
  · rw [cold_tracker]
    exact ⟨rfl, rfl, rfl⟩

theorem Ledger.warmResetDo {p : Port} (hpart : s.part = .operating) (h : s.Ledger [p]) (tag : Byte) (e : Half) :
    (s.warmResetDo p tag e).Ledger [] := by
  unfold State.warmResetDo
  split
  · exact h.reply hpart ..
  · split
    · exact h.reply hpart ..
    · exact .warmBegin (h.power_on hpart)

/-! ## The end of a reset sequence and of cold start -/

/-- A discarded part, with the bus free, comes into operation (R182, R185). -/
theorem Ledger.announce (h : s.Ledger []) (hpart : s.part = .resetting) (hjob : s.job = none)
    (hpower : s.power = .on) (e : Half) : (s.announce e).Ledger [] := by
  have hf : ({ s with part := .operating } : State).flight = s.flight := by
    unfold flight
    rw [hjob, hpart]
  have h₁ : ({ s with part := .operating } : State).Ledger [] := by
    refine .of_operating rfl hpower ?_ h.ports
    have howed : ({ s with part := .operating } : State).owed = s.owed :=
      s.owed_congr (fun _ => rfl) hf fun _ => rfl
    exact howed ▸ h.tally.of_counts (fun _ => rfl) (fun _ => rfl) fun _ => rfl
  exact ((((h₁.raise rfl _ _).raise rfl _ _).quiet (.moveNotices .A)).quiet (.moveNotices .B)).quiet .driveAttention

theorem Ledger.coldEnd (h : s.Ledger []) (hpower : s.power ≠ .on) : s.coldEnd.Ledger [] := by
  obtain ⟨hpart, hjob, _⟩ := h.cold hpower
  have h₁ : ∀ links, ({ s with power := .on, resetPin := false, links := links } : State).Ledger [] := fun links =>
    ⟨h.tally.of_counts (fun _ => rfl) (fun _ => rfl) fun _ => rfl, h.ports, h.discard, fun hp => absurd rfl hp⟩
  exact (h₁ _).announce hpart hjob rfl 0

theorem Ledger.sequenceEnd (h : s.Ledger []) (he : s.sequenceMayEnd = true) : s.sequenceEnd.Ledger [] := by
  simp only [sequenceMayEnd, Bool.and_eq_true, beq_iff_eq, Option.isNone_iff_eq_none] at he
  obtain ⟨⟨⟨⟨hpower, hpart⟩, _⟩, hjob⟩, _⟩ := he
  have hq : s.Quiet { s with epoch := s.epoch + 1 } := .of_eq rfl rfl rfl rfl rfl rfl rfl
  exact (h.quiet hq).announce hpart hjob hpower _

theorem Ledger.pinRelease (h : s.Ledger []) (hpower : s.power = .on) : s.pinRelease.Ledger [] := by
  have ht : ∀ d : Device, (s.trackers.map Tracker.released)[d] = (s.tracker d).released := fun d => by
    simp [tracker]
  have hq : s.Quiet { s with trackers := s.trackers.map Tracker.released } :=
    .of_trackers (fun d => by rw [ht]; exact ⟨rfl, fun _ => rfl⟩) (fun _ d _ hc => by rw [ht]; exact hc)
      fun hp => absurd hpower hp
  exact (h.quiet hq).quiet (.of_eq rfl rfl rfl rfl rfl rfl rfl)

/-! ## Frames -/

theorem Quiet.removal (p : Port) (f : Frame) : s.Quiet (s.removal p f) := by
  unfold State.removal
  split
  · exact .setOut rfl fun _ hq hn => ⟨by rw [Outbound.removeHead_queue, hq]; rfl, hn⟩
  · exact .of_eq rfl rfl rfl rfl rfl rfl rfl

/-- NULL is never accepted: it leaves its receipt and nothing else (R115). -/
theorem nullRequest_eq (p : Port) (tag : Byte) :
    s.nullRequest p tag = s.writeReceipt p tag (s.intakeVerdict p tag .collect) := by
  obtain ⟨_, h⟩ | ⟨hv, _⟩ := s.intake_cases p tag .collect id
  · exact h
  · exact absurd rfl ((s.accepted_iff p tag .collect).mp hv).2.1

/-- A request of an unknown kind is never accepted: it leaves its receipt and nothing else (R116). -/
theorem unknownRequest_eq (p : Port) (tag : Byte) :
    s.unknownRequest p tag = s.writeReceipt p tag (s.intakeVerdict p tag .unknown) := by
  obtain ⟨_, h⟩ | ⟨hv, _⟩ := s.intake_cases p tag .unknown id
  · exact h
  · exact absurd rfl ((s.accepted_iff p tag .unknown).mp hv).2.2.1

theorem Ledger.nullRequest (h : s.Ledger []) (p : Port) (tag : Byte) : (s.nullRequest p tag).Ledger [] := by
  rw [nullRequest_eq]
  exact h.quiet (.writeReceipt ..)

theorem Ledger.unknownRequest (h : s.Ledger []) (p : Port) (tag : Byte) : (s.unknownRequest p tag).Ledger [] := by
  rw [unknownRequest_eq]
  exact h.quiet (.writeReceipt ..)

theorem Ledger.handRequest (h : s.Ledger []) (p : Port) (tag : Byte) (r : FrameRequest) :
    (s.handRequest p tag r).Ledger [] := by
  cases r with
  | null => exact h.nullRequest p tag
  | unknown => exact h.unknownRequest p tag
  | read a n => exact h.intake fun _ hpart h' => h'.memoryRequest hpart ..
  | program a data => exact h.intake fun _ hpart h' => h'.memoryRequest hpart ..
  | erase a k => exact h.intake fun _ hpart h' => h'.memoryRequest hpart ..
  | windowWrite w r => exact h.intake fun _ hpart h' => h'.windowWriteDo hpart ..
  | windowRead w => exact h.intake fun _ hpart h' => h'.windowReadDo hpart ..
  | profileWrite d r => exact h.intake fun _ hpart h' => h'.profileWriteDo hpart ..
  | profileRead d => exact h.intake fun _ hpart h' => h'.profileReadDo hpart ..
  | swap w => exact h.intake fun _ hpart h' => h'.swapDo hpart ..
  | freeze => exact h.intake fun _ hpart h' => h'.freezeDo hpart ..
  | handover => exact h.intake fun _ hpart h' => h'.handoverDo hpart ..
  | statusRead c => exact h.intake fun _ hpart h' => h'.statusReadDo hpart ..
  | abort q t => exact h.intake fun _ hpart h' => h'.abortDo hpart ..
  | warmReset e => exact h.intake fun _ hpart h' => h'.warmResetDo hpart ..

theorem Ledger.frameEnd (h : s.Ledger []) (p : Port) (x : Fin 8) : (s.frameEnd p x).Ledger [] := by
  unfold State.frameEnd
  split
  · exact h
  · exact (h.quiet (.setLink p _)).quiet (.countFree _)
  · unfold State.frameEndWork
    dsimp only
    refine Ledger.quiet ?_ .driveAttention
    have hm : ∀ l f, (((s.setLink p l).removal p f).moveNotices p).Ledger [] := fun l f =>
      ((h.quiet (.setLink p l)).quiet (.removal p f)).quiet (.moveNotices p)
    split
    · exact (hm ..).handRequest ..
    · exact ((hm ..).quiet (.setLink p _)).quiet (.writeReceipt ..)

theorem Ledger.frameBegin (h : s.Ledger []) (p : Port) : (s.frameBegin p).Ledger [] := by
  unfold State.frameBegin
  split
  · exact h.quiet (.setLink p _)
  · exact h
  · exact h

theorem Ledger.inboundByte (h : s.Ledger []) (p : Port) (b : Byte) : (s.inboundByte p b).Ledger [] := by
  unfold State.inboundByte
  dsimp only
  split
  · exact h.quiet (.setLink p _)
  · exact (h.quiet (.setLink p _)).quiet (.countFree _)
  · exact h

/-! ## The grant -/

theorem leadersFrom_sublist (seen : List Device) (q : List Request) : (leadersFrom seen q).Sublist q := by
  induction q generalizing seen with
  | nil => exact .slnil
  | cons r q ih =>
    unfold leadersFrom
    split
    · exact (ih seen).cons r
    · exact (ih _).cons_cons r

/-- The request that the arbiter grants waits in a port queue (R96). -/
theorem nextRequest_mem {r : Request} (h : s.nextRequest = some r) : ∃ p, r ∈ s.queue p := by
  have hold : ∀ p, s.oldestEligible p = some r → r ∈ s.queue p := fun p hp =>
    (leadersFrom_sublist [] (s.queue p)).subset (List.mem_of_find?_eq_some hp)
  rw [nextRequest, Option.or_eq_some_iff] at h
  obtain h | ⟨_, h⟩ := h <;> exact ⟨_, hold _ h⟩

/-- The arbiter's grant of a request is the one of class 4, with no abort mark (R95, R103). -/
theorem nextGrant_request {r : Request} {m : Bool} (h : s.nextGrant = some (.request r m)) :
    m = false ∧ s.nextRequest = some r := by
  unfold nextGrant at h
  split at h
  · cases h
  split at h
  · cases h
  split at h
  · cases h
  simpa [and_comm, eq_comm] using h

/-- Before the end of cold start nothing is to be granted. -/
theorem Ledger.nextGrant_of_off (h : s.Ledger []) (hpower : s.power ≠ .on) : s.nextGrant = none := by
  obtain ⟨hpart, _, ht⟩ := h.cold hpower
  have hl : ∀ f : Tracker → Bool, f .cold = false → s.lowestDevice f = none := fun f hf => by
    simp [lowestDevice, ht, hf]
  have hn : s.nextRequest = none := by
    by_contra hne
    obtain ⟨r, hr⟩ := Option.ne_none_iff_exists'.mp hne
    obtain ⟨p, hp⟩ := nextRequest_mem hr
    rw [((h.discard hpart).1 p).1] at hp
    cases hp
  simp [nextGrant, hn, hl Tracker.wantReset rfl, hl Tracker.wantPoll rfl,
    hl (fun t => t.wantSuspend || t.wantResume) rfl]

theorem keeps_granted (t : Tracker) (k : TrackerJob) : t.Keeps (t.granted k) := by
  cases k <;> exact ⟨rfl, fun _ => rfl⟩

/-! ## The request in flight -/

theorem flight_of_none (hj : s.job = none) : s.flight = [] := by
  unfold flight
  rw [hj]
  cases s.part <;> rfl

theorem flight_of_tracker {k : TrackerJob} {d : Device} {l : List SelectPeriod}
    (hj : s.job = some { kind := .tracker k d, selects := l }) : s.flight = [] := by
  unfold flight
  rw [hj]
  cases s.part <;> rfl

theorem flight_of_resetting (hpart : s.part = .resetting) : s.flight = [] := by
  unfold flight
  rw [hpart]

theorem flight_of_request {r : Request} {m : Bool} {l : List SelectPeriod} (hpart : s.part = .operating)
    (hj : s.job = some { kind := .request r m, selects := l }) : s.flight = [r] := by
  unfold flight
  rw [hpart, hj]

/-- A request more in flight, and nothing else moved. -/
theorem owed_of_flight {r : Request} (hq : ∀ p, t.queue p = s.queue p) (hf : t.flight = r :: s.flight)
    (ht : ∀ d, t.tracker d = s.tracker d) : t.owed.Perm (r.owed :: s.owed) := by
  rw [List.perm_iff_count]
  intro o
  simp only [owed, hq, hf, ht, List.map_cons, List.count_append, List.count_cons]
  omega

/-- A waiting request leaves its queue for the bus (R103). -/
theorem Ledger.grant_request (h : s.Ledger []) (hpower : s.power = .on) (hjob : s.job = none) {r : Request}
    (hr : ∃ p, r ∈ s.queue p) (m : Bool) : (s.grant (.request r m)).Ledger [] := by
  obtain ⟨p, hr⟩ := hr
  have hp := h.ports p r hr
  subst hp
  have hpart : s.part = .operating := by
    cases hpart : s.part with
    | operating => rfl
    | resetting =>
      rw [((h.discard hpart).1 r.port).1] at hr
      cases hr
  have hleave := s.owed_of_leave_queue r.port (left := [r]) (List.perm_cons_erase hr)
  have hflight : (s.grant (.request r m)).owed.Perm
      (r.owed :: (s.setQueue r.port ((s.queue r.port).erase r)).owed) :=
    owed_of_flight (fun _ => rfl) ((flight_of_request (s := s.grant (.request r m)) hpart rfl).trans
      (congrArg (r :: ·) (flight_of_none (s := s.setQueue r.port _) hjob).symm)) fun _ => rfl
  have htally : (s.grant (.request r m)).Tally [] s.owed :=
    h.tally.of_counts (fun _ => rfl) (fun _ => rfl) fun _ => rfl
  exact .of_operating hpart hpower (htally.perm (hleave.trans hflight.symm))
    (ports_of_leave h.ports List.erase_subset)

theorem Ledger.busGrant (h : s.Ledger []) : s.busGrant.Ledger [] := by
  unfold State.busGrant
  split
  · next k hjob hk =>
    have hpower : s.power = .on := by
      by_contra hp
      rw [h.nextGrant_of_off hp] at hk
      cases hk
    refine Ledger.reconsider ?_
    cases k with
    | tracker k d =>
      have h₁ := h.quiet (.setTracker (keeps_granted (s.tracker d) k)
        (fun _ _ hc => by cases k <;> exact hc) fun hp => absurd hpower hp)
      exact h₁.quiet (.setJob ((flight_of_tracker rfl).trans (flight_of_none hjob).symm) fun hp => absurd hpower hp)
    | request r m => exact h.grant_request hpower hjob (nextRequest_mem (nextGrant_request hk).2) m
  · exact h

/-! ## Answers that leave every request in its place -/

/-- Part, power, job, queues and stacks are where they were. -/
structure Unmoved (s t : State) : Prop where
  power : t.power = s.power
  part : t.part = s.part
  job : t.job = s.job
  queues : t.queues = s.queues
  records : ∀ d, (t.tracker d).stack = (s.tracker d).stack

theorem Unmoved.refl (s : State) : s.Unmoved s := ⟨rfl, rfl, rfl, rfl, fun _ => rfl⟩

theorem Unmoved.trans {u : State} (h : s.Unmoved t) (h' : t.Unmoved u) : s.Unmoved u :=
  ⟨h'.power.trans h.power, h'.part.trans h.part, h'.job.trans h.job, h'.queues.trans h.queues,
    fun d => (h'.records d).trans (h.records d)⟩

theorem Unmoved.queue (h : s.Unmoved t) (p : Port) : t.queue p = s.queue p := congrArg (PerPort.get · p) h.queues

theorem Unmoved.owed (h : s.Unmoved t) : t.owed = s.owed :=
  s.owed_congr h.queue (s.flight_eq h.part h.job) fun d => by rw [h.records d]

theorem Unmoved.ports (h : s.Unmoved t) (hs : QueuePortLaw s) : QueuePortLaw t := fun p r hr =>
  hs p r (h.queue p ▸ hr)

theorem unmoved_answer (p : Port) (m : Message) (w : WindowNo) (d : Device) : s.Unmoved (s.answer p m w d) := by
  have hf := s.answer_frame p m w d
  refine ⟨by rw [hf], by rw [hf], by rw [hf], by rw [hf], fun e => ?_⟩
  rw [answer_tracker]
  split
  · next x => rw [x]
  · rfl

theorem unmoved_answerAll (d : Device) (l : List OpRecord) : s.Unmoved (s.answerAll d l) := by
  induction l generalizing s with
  | nil => exact .refl s
  | cons rec l ih => exact (unmoved_answer ..).trans ih

theorem unmoved_answerFaults (l : List Request) : s.Unmoved (s.answerFaults l) := by
  induction l generalizing s with
  | nil => exact .refl s
  | cons r l ih => exact (unmoved_answer ..).trans ih

/-- The records that leave the stack of a device. -/
theorem owed_of_leave_stack {d : Device} {v : Tracker} {left : List OpRecord}
    (h : (s.tracker d).stack = left ++ v.stack) :
    s.owed.Perm (left.map (OpRecord.owed d) ++ (s.setTracker d v).owed) := by
  have hx := s.owed_setTracker d v
  rw [h, List.map_append, ← List.append_assoc, List.perm_append_right_iff] at hx
  exact hx.symm.trans List.perm_append_comm

/-- The records that join the stack of a device. -/
theorem owed_of_join_stack {d : Device} {v : Tracker} {new : List OpRecord}
    (h : v.stack.map (OpRecord.owed d) = new.map (OpRecord.owed d) ++ (s.tracker d).stack.map (OpRecord.owed d)) :
    (s.setTracker d v).owed.Perm (new.map (OpRecord.owed d) ++ s.owed) := by
  have hx := s.owed_setTracker d v
  rw [h, ← List.append_assoc, List.perm_append_right_iff] at hx
  exact hx.trans List.perm_append_comm

/-- Records are answered and then leave their stack (R58, R63). -/
theorem Ledger.leave_stack (h : s.Ledger []) (hpart : s.part = .operating) {d : Device} {left : List OpRecord}
    {v : Tracker} (hstack : (s.tracker d).stack = left ++ v.stack) (hu : s.Unmoved t)
    (ht : ∀ l, s.Tally [] (left.map (OpRecord.owed d) ++ l) → t.Tally [] l)
    (hv : v.refCount = (t.tracker d).refCount) : (t.setTracker d v).Ledger [] := by
  have howed := owed_of_leave_stack (s := t) (d := d) (v := v) ((hu.records d).trans hstack)
  rw [hu.owed] at howed
  refine .of_operating (hu.part.trans hpart) (hu.power.trans (h.power_on hpart))
    ((ht _ (h.tally.perm howed)).of_counts (fun _ => rfl) (fun _ => rfl) fun e => ?_) (hu.ports h.ports)
  rw [tracker_setTracker]
  split
  · next x => rw [x, hv]
  · rfl

/-! ## Completions -/

theorem operating_of_not_resetting (h : s.part ≠ .resetting) : s.part = .operating := by
  cases e : s.part with
  | operating => rfl
  | resetting => exact absurd e h

/-- The request whose job completes is answered or becomes a record: it is in flight no longer. -/
theorem owed_of_completed {r : Request} {m : Bool} {l : List SelectPeriod} (hpart : s.part = .operating)
    (hj : s.job = some { kind := .request r m, selects := l }) :
    s.owed.Perm (r.owed :: (s.setJob none).owed) :=
  owed_of_flight (s := s.setJob none) (fun _ => rfl)
    ((flight_of_request hpart hj).trans (congrArg (r :: ·) (flight_of_none rfl).symm)) fun _ => rfl

/-- Within a reset sequence the completion of any job moves no request (R178, R179). -/
theorem Ledger.setJob_none_resetting (h : s.Ledger held) (hpart : s.part = .resetting) :
    (s.setJob none).Ledger held :=
  h.quiet (.setJob ((flight_of_none rfl).trans (flight_of_resetting hpart).symm) fun _ _ => rfl)

/-- The completion of a tracker's job moves no request. -/
theorem Ledger.setJob_none_tracker (h : s.Ledger held) {k : TrackerJob} {d : Device} {l : List SelectPeriod}
    (hj : s.job = some { kind := .tracker k d, selects := l }) : (s.setJob none).Ledger held :=
  h.quiet (.setJob ((flight_of_none rfl).trans (flight_of_tracker hj).symm) fun _ _ => rfl)

theorem Ledger.readJobComplete (h : s.Ledger []) (driven : List Byte) : (s.readJobComplete driven).Ledger [] := by
  unfold State.readJobComplete
  split
  · next r m l hj =>
    split
    · dsimp only
      split
      · next hpart => exact (h.setJob_none_resetting hpart).quiet (.countFree _)
      · next hpart =>
        have hpart := operating_of_not_resetting hpart
        have htally : ((s.setJob none).countFree (r.count - driven.length)).Tally []
            (r.owed :: ((s.setJob none).countFree (r.count - driven.length)).owed) :=
          .of_counts (h.tally.perm (owed_of_completed hpart hj)) (fun _ => rfl) (fun _ => rfl) fun _ => rfl
        exact (Ledger.of_answer htally h.ports hpart (h.power_on hpart) _).close
    · exact h
  · exact h

/-- The record that a request becomes counts as the request did (R54). -/
theorem push_owed (t : Tracker) (prof : Profile) (r : Request) (m : Bool) :
    (t.push prof r m).stack.map (OpRecord.owed r.device) = r.owed :: t.stack.map (OpRecord.owed r.device) := by
  unfold Tracker.push
  split
  · rfl
  · split
    · rw [(keeps_recover _ _).stack]
      rfl
    · rfl

theorem push_refCount (t : Tracker) (prof : Profile) (r : Request) (m : Bool) :
    (t.push prof r m).refCount = t.refCount := by
  unfold Tracker.push
  split
  · rfl
  · split <;> rfl

theorem keeps_startDiscarded (t : Tracker) : t.Keeps t.startDiscarded := by
  unfold Tracker.startDiscarded
  split <;> exact ⟨rfl, fun _ => rfl⟩

theorem startDiscarded_cause (t : Tracker) : t.startDiscarded.cause = t.cause := by
  unfold Tracker.startDiscarded
  split <;> rfl

theorem Ledger.startJobComplete (h : s.Ledger []) : s.startJobComplete.Ledger [] := by
  unfold State.startJobComplete
  split
  · next r m l hj =>
    split
    · exact h
    · dsimp only
      split
      · next hpart =>
        refine (h.setJob_none_resetting hpart).quiet (.setTracker (keeps_startDiscarded _) (fun _ _ hc => ?_)
          fun hp => absurd (h.power_on_of_job hj) hp)
        rw [startDiscarded_cause]
        exact hc
      · next hpart =>
        have hpart := operating_of_not_resetting hpart
        have hjoin := owed_of_join_stack (s := s.setJob none) (d := r.device)
          (v := (s.tracker r.device).push (s.profile r.device) r m) (new := [r.toRecord (s.profile r.device) m none])
          (push_owed ..)
        refine Ledger.reconsider (.of_operating hpart (h.power_on hpart) (.of_counts
          (h.tally.perm ((owed_of_completed hpart hj).trans hjoin.symm)) (fun _ => rfl) (fun _ => rfl) fun d => ?_)
          h.ports)
        rw [tracker_setTracker]
        split
        · next e => rw [push_refCount, e]
        · rfl
  · exact h

theorem keeps_holdSuspended (t : Tracker) : t.Keeps t.holdSuspended := by
  unfold Tracker.holdSuspended
  refine ⟨rfl, fun d => ?_⟩
  cases t.stack <;> rfl

/-- A poll ends a record only where there is one (R57). -/
theorem pollEffect_finished {t : Tracker} {prof : Profile} {b : Byte} {st : EndStatus}
    (h : t.pollEffect prof b = .finished st) : ∃ top rest, t.stack = top :: rest := by
  unfold Tracker.pollEffect at h
  split at h
  · cases h
  · next top rest e => exact ⟨top, rest, e⟩

theorem Ledger.pollResult (h : s.Ledger []) (hpart : s.part = .operating) (d : Device) (b : Byte) :
    (s.pollResult d b).Ledger [] := by
  unfold State.pollResult
  dsimp only
  split
  · exact h
  · exact h.setTracker_operating hpart ⟨rfl, fun _ => rfl⟩
  · exact h.setTracker_operating hpart (keeps_holdSuspended _)
  · next st hst =>
    obtain ⟨top, rest, hstack⟩ := pollEffect_finished hst
    have he : s.answerTop d st = s.answerRecord d top st.status := by
      unfold answerTop
      rw [hstack]
    rw [he]
    have hu : s.Unmoved (s.answerRecord d top st.status) := unmoved_answer ..
    refine h.leave_stack hpart (left := [top]) ?_ hu (fun l hl => hl.answer (o := top.owed d) _) rfl
    show _ = [top] ++ ((s.answerRecord d top st.status).tracker d).stack.tail
    rw [hu.records, hstack]
    rfl

theorem Ledger.pollComplete (h : s.Ledger []) (status : Option Byte) : (s.pollComplete status).Ledger [] := by
  unfold State.pollComplete
  split
  · next d l hj =>
    have h₁ := (h.setJob_none_tracker hj).quiet (.countFree (if status.isNone then 1 else 0))
    dsimp only
    split
    · exact h₁
    · next hpart => exact (h₁.pollResult (operating_of_not_resetting hpart) ..).close
  · exact h

theorem keeps_suspendDone (t : Tracker) (prof : Profile) : t.Keeps (t.suspendDone prof) := by
  unfold Tracker.suspendDone
  split
  · next hs =>
    split
    · exact .refl t
    · exact ⟨rfl, fun _ => by rw [hs]; rfl⟩
  · exact .refl t

theorem keeps_resumeDone (t : Tracker) (prof : Profile) : t.Keeps (t.resumeDone prof) := by
  unfold Tracker.resumeDone
  split
  · next hs => exact ⟨rfl, fun _ => by rw [hs]; rfl⟩
  · exact .refl t

theorem Ledger.suspendComplete (h : s.Ledger []) : s.suspendComplete.Ledger [] := by
  unfold State.suspendComplete
  split
  · next d l hj =>
    have h₁ := h.setJob_none_tracker hj
    dsimp only
    split
    · exact h₁
    · next hpart =>
      exact (h₁.setTracker_operating (operating_of_not_resetting hpart) (keeps_suspendDone _ _)).reconsider
  · exact h

theorem Ledger.resumeComplete (h : s.Ledger []) : s.resumeComplete.Ledger [] := by
  unfold State.resumeComplete
  split
  · next d l hj =>
    have h₁ := h.setJob_none_tracker hj
    dsimp only
    split
    · exact h₁
    · next hpart =>
      exact (h₁.setTracker_operating (operating_of_not_resetting hpart) (keeps_resumeDone _ _)).reconsider
  · exact h

theorem Ledger.resetDone (h : s.Ledger []) (hpower : s.power = .on) (d : Device) : (s.resetDone d).Ledger [] := by
  unfold State.resetDone
  dsimp only
  cases hpart : s.part with
  | operating =>
    exact h.leave_stack hpart (left := (s.tracker d).stack) (List.append_nil _).symm (unmoved_answerAll ..)
      (fun l hl => hl.answerAll) rfl
  | resetting =>
    have hs : (s.tracker d).stack = [] := ((h.discard hpart).2 d).1
    rw [hs]
    exact h.quiet (.setTracker ⟨rfl, fun _ => by rw [hs]⟩ (fun _ _ hc => hc) fun hp => absurd hpower hp)

theorem Ledger.resetJobComplete (h : s.Ledger []) : s.resetJobComplete.Ledger [] := by
  unfold State.resetJobComplete
  split
  · next d l hj =>
    have h₁ := h.setJob_none_tracker hj
    dsimp only
    split
    · exact h₁
    · exact (h₁.resetDone (h.power_on_of_job hj) d).close
  · exact h

/-! ## Time -/

theorem keeps_tick (t : Tracker) : t.Keeps t.tick := by
  refine ⟨rfl, fun d => ?_⟩
  show (t.stack.map OpRecord.tick).map (OpRecord.owed d) = _
  rw [List.map_map]
  refine List.map_congr_left fun rec _ => ?_
  obtain ⟨_, _, e⟩ | ⟨_, _, e⟩ | ⟨_, e⟩ := rec.tick_cases <;> rw [Function.comp, e] <;> rfl

@[simp] theorem tick_tracker (d : Device) : s.tick.tracker d = (s.tracker d).tick := by simp [tick, tracker]

theorem Ledger.tick (h : s.Ledger []) : s.tick.Ledger [] := by
  have ht : ∀ d : Device, (s.trackers.map Tracker.tick)[d] = (s.tracker d).tick := s.tick_tracker
  have hq : s.Quiet { s with trackers := s.trackers.map Tracker.tick } :=
    .of_trackers (fun d => by rw [ht]; exact keeps_tick _) (fun _ d _ hc => by rw [ht]; exact hc)
      fun _ d e => by rw [ht, e]; rfl
  exact (h.quiet hq).quiet (.of_eq rfl rfl rfl rfl rfl rfl rfl)

theorem keeps_timeOut {t : Tracker} {top rec : OpRecord} {rest : List OpRecord} (hs : t.stack = top :: rest)
    (hr : ∀ d, rec.owed d = top.owed d) : t.Keeps (t.timeOut rec rest) := by
  refine ⟨rfl, fun d => ?_⟩
  unfold Tracker.timeOut
  rw [(keeps_recover _ _).stack, hs]
  exact congrArg (· :: _) (hr d)

/-- The records that a deadline or a settle timer ends stand on top of their stack. -/
theorem deadlineDue_stack {t : Tracker} {top : OpRecord} {rest : List OpRecord}
    (h : t.deadlineDue = some (top, rest)) : t.stack = top :: rest := by
  unfold Tracker.deadlineDue at h
  split at h
  · split at h <;> cases h
    assumption
  · split at h <;> cases h
    assumption
  · cases h

theorem settleDue_stack {t : Tracker} {top : OpRecord} {rest : List OpRecord}
    (h : t.settleDue = some (top, rest)) : t.stack = top :: rest := by
  unfold Tracker.settleDue at h
  split at h
  · split at h <;> cases h
    assumption
  · cases h

theorem Ledger.timeOut (h : s.Ledger []) {d : Device} {top rec : OpRecord} {rest : List OpRecord}
    (hs : (s.tracker d).stack = top :: rest) (hr : ∀ e, rec.owed e = top.owed e) :
    (s.setTracker d ((s.tracker d).timeOut rec rest)).Ledger [] := by
  refine h.quiet (.setTracker (keeps_timeOut hs hr) (fun _ he => ?_) fun _ he => ?_)
  · rw [hs] at he
    cases he
  · rw [he] at hs
    cases hs

/-- The waiting requests of a device leave a port queue and are answered (R66). -/
theorem Ledger.drain (h : s.Ledger []) (hpart : s.part = .operating) (d : Device) (p : Port) :
    (s.drain d p).Ledger [] := by
  unfold State.drain
  have hu := unmoved_answerFaults (s := s.setQueue p ((s.queue p).filter fun r => r.device != d))
    ((s.queue p).filter fun r => r.device == d)
  have hleave := s.owed_of_leave_queue p (List.filter_append_perm (fun r => r.device == d) (s.queue p)).symm
  have hports : QueuePortLaw (s.setQueue p ((s.queue p).filter fun r => r.device != d)) :=
    ports_of_leave h.ports (List.filter_subset_self _)
  have htally : (s.setQueue p ((s.queue p).filter fun r => r.device != d)).Tally [] s.owed :=
    h.tally.of_counts (fun _ => rfl) (fun _ => rfl) fun _ => rfl
  refine .of_operating (hu.part.trans hpart) (hu.power.trans (h.power_on hpart)) ?_ (hu.ports hports)
  rw [hu.owed]
  exact (htally.perm hleave).answerFaults

theorem drain_part (d : Device) (p : Port) : (s.drain d p).part = s.part := (unmoved_answerFaults _).part

theorem Ledger.quarantine (h : s.Ledger []) (hpart : s.part = .operating) (d : Device) :
    (s.quarantine d).Ledger [] := by
  unfold State.quarantine
  have h₁ : (s.setTracker d ((s.tracker d).settled .faulted)).Ledger [] :=
    h.setTracker_operating hpart ⟨rfl, fun _ => rfl⟩
  have h₂ := h₁.drain hpart d .A
  have hpart₂ := (drain_part (s := s.setTracker d ((s.tracker d).settled .faulted)) d .A).trans hpart
  exact ((h₂.drain hpart₂ d .B).raise ((drain_part d .B).trans hpart₂) ..).close

/-! ## Every command -/

theorem Ledger.resetSettle (h : s.Ledger []) (d : Device) (hr : (s.tracker d).state = .recovering) :
    (if (s.tracker d).cause = some .timeout ∧ (s.tracker d).timeouts = 3 then s.quarantine d
      else (s.setTracker d ((s.tracker d).settled .idle)).reconsider).Ledger [] := by
  split
  · next hc =>
    refine h.quarantine (operating_of_not_resetting fun hpart => ?_) d
    exact absurd (((h.discard hpart).2 d).2.symm.trans hc.1) nofun
  · refine (h.quiet (.setTracker (v := (s.tracker d).settled .idle) ⟨rfl, fun _ => rfl⟩ (fun _ _ _ => rfl)
      fun _ e => ?_)).reconsider
    rw [e] at hr
    cases hr

/-- What a powered event leaves (assumption 4). -/
theorem powered_next {u : State} (h : s.powered u = .next t) : t = s ∨ t = u := by
  unfold powered at h
  split at h <;> cases h
  · exact .inl rfl
  · exact .inr rfl

theorem Ledger.powered (h : s.Ledger []) {u : State} (hu : u.Ledger []) (he : s.powered u = .next t) :
    t.Ledger [] := by
  obtain rfl | rfl := powered_next he
  · exact h
  · exact hu

theorem Ledger.next {u : State} (hu : u.Ledger []) (he : (.next u : Host.Outcome State Fault Refusal) = .next t) :
    t.Ledger [] := by
  cases he
  exact hu

/-- Every command keeps the ledger (R4, R52, R104, R132, R186). -/
theorem Ledger.exec (h : s.Ledger []) (c : Instr) (he : exec c s = .next t) : t.Ledger [] := by
  cases c with
  | coldStart pin a b => exact Ledger.next (.of_cold ..) he
  | coldStartEnd =>
    refine Ledger.next ?_ he
    split
    · next hp => exact h.coldEnd (hp ▸ nofun)
    · exact h
  | powerOff => exact Ledger.next (.of_cold ..) he
  | timeBaseTick => exact h.powered h.tick he
  | frameBegin p => exact h.powered (h.frameBegin p) he
  | frameEnd p x => exact h.powered (h.frameEnd p x) he
  | null p t => exact h.powered (h.nullRequest p t) he
  | read p t a n => exact h.powered (h.handRequest p t (.read a n)) he
  | program p t a data => exact h.powered (h.handRequest p t (.program a data)) he
  | erase p t a k => exact h.powered (h.handRequest p t (.erase a k)) he
  | windowWrite p t n r => exact h.powered (h.handRequest p t (.windowWrite n r)) he
  | windowRead p t n => exact h.powered (h.handRequest p t (.windowRead n)) he
  | profileWrite p t n r => exact h.powered (h.handRequest p t (.profileWrite n r)) he
  | profileRead p t n => exact h.powered (h.handRequest p t (.profileRead n)) he
  | swap p t n => exact h.powered (h.handRequest p t (.swap n)) he
  | freeze p t => exact h.powered (h.handRequest p t .freeze) he
  | handover p t => exact h.powered (h.handRequest p t .handover) he
  | statusRead p t c => exact h.powered (h.handRequest p t (.statusRead c)) he
  | abort p t q u => exact h.powered (h.handRequest p t (.abort q u)) he
  | warmReset p t e => exact h.powered (h.handRequest p t (.warmReset e)) he
  | clearStep =>
    refine Ledger.next ?_ he
    split
    · exact h.quiet .clear
    · exact h
  | resetSequenceEnd =>
    refine Ledger.next ?_ he
    split
    · next hp => exact h.sequenceEnd hp
    · exact h
  | resetPinAssert =>
    refine Ledger.next ?_ he
    split
    · exact h
    · exact h.quiet (.of_eq rfl rfl rfl rfl rfl rfl rfl)
    · next hp =>
      split
      · exact h
      · exact .pinBegin hp
  | resetPinRelease =>
    refine Ledger.next ?_ he
    split
    · split
      · exact h
      · next hp => exact h.coldEnd (hp ▸ nofun)
      · next hp => exact h.pinRelease hp
    · exact h
  | busGrant => exact h.powered h.busGrant he
  | readJobComplete l => exact h.powered (h.readJobComplete l) he
  | startJobComplete => exact h.powered h.startJobComplete he
  | pollComplete b => exact h.powered (h.pollComplete b) he
  | suspendComplete => exact h.powered h.suspendComplete he
  | resumeComplete => exact h.powered h.resumeComplete he
  | resetJobComplete => exact h.powered h.resetJobComplete he
  | pollTimerExpiry d =>
    refine h.powered ?_ he
    split
    · next hp =>
      refine h.quiet (.setTracker ⟨rfl, fun _ => rfl⟩ (fun _ _ hc => hc) fun _ e => ?_)
      rw [e] at hp
      cases hp
    · exact h
  | deadlineExpiry d =>
    refine h.powered ?_ he
    split
    · next hd =>
      refine (h.timeOut (deadlineDue_stack hd) ?_).reconsider
      exact fun _ => rfl
    · exact h
  | suspendSettleExpiry d =>
    refine h.powered ?_ he
    split
    · next hd => exact (h.timeOut (settleDue_stack hd) fun _ => rfl).reconsider
    · exact h
  | resetSettleExpiry d =>
    refine h.powered ?_ he
    split
    · next hr => exact h.resetSettle d hr.1
    · exact h
  | inboundByte p b => exact h.powered (h.inboundByte p b) he
  | clkPeriod =>
    refine h.powered ?_ he
    split
    · exact h.tick
    · exact h.quiet (.of_eq rfl rfl rfl rfl rfl rfl rfl)

/-- A step takes the command at the front of the queue, or idles (assumption 1). -/
theorem step_next (h : step s = .next t) :
    t = s ∨ ∃ c rest, s.pending = c :: rest ∧ Machine.exec c { s with pending := rest } = .next t := by
  unfold step at h
  split at h
  · cases h
    exact .inl rfl
  · next c rest hp => exact .inr ⟨c, rest, hp, h⟩

end State

/-- Settles O51: the ledger of every command, for the command at the front of the queue. -/
theorem ledgerKept : Obligations.LedgerKept := by
  intro s t hs h
  rw [ledgerLaw_iff] at hs ⊢
  obtain rfl | ⟨c, rest, _, he⟩ := State.step_next h
  · exact hs
  · have hq : s.Quiet { s with pending := rest } := .of_eq rfl rfl rfl rfl rfl rfl rfl
    exact (hs.quiet hq).exec c he

end Sys2Proof.Machine
end

section
/-! SUPPORT. Valid window records, and the ways in which a command changes the window table. -/

namespace Sys2Proof.Machine

/-! ## Valid window records (R21, R192) -/

theorem rightsOf_eq_empty (b : Byte) : rightsOf b = .empty ↔ ∀ i < 3, b.getLsbD i = false := by
  constructor
  · intro h i hi
    simp only [rightsOf, Rights.empty, Rights.mk.injEq] at h
    obtain ⟨h₀, h₁, h₂⟩ := h
    interval_cases i <;> assumption
  · intro h
    simp only [rightsOf, Rights.empty, Rights.mk.injEq]
    exact ⟨h 0 (by omega), h 1 (by omega), h 2 (by omega)⟩

theorem aligned4K_iff (w : Word) : aligned4K w = true ↔ w.toNat % 4096 = 0 := by
  simp [aligned4K, Config.windowUnit]

theorem fits_iff (b : Word) (n : Nat) : fits b n = true ↔ b.toNat + n ≤ 2 ^ 32 := by
  unfold fits
  exact decide_eq_true_iff

/-- What makes a window record valid, condition by condition. -/
theorem windowRecord_valid_iff (r : WindowRecord) : r.valid = true ↔ r.state = 0 ∨ r.state = 1
    ∧ (r.owners = 1 ∨ r.owners = 2 ∨ r.owners = 3) ∧ r.device.toNat ≤ 3
    ∧ 1 ≤ r.size.toNat
    ∧ r.logicalBase.toNat % 4096 = 0 ∧ r.logicalBase.toNat + 4096 * r.size.toNat ≤ 2 ^ 32
    ∧ r.bank0.toNat % 4096 = 0 ∧ r.bank0.toNat + 4096 * r.size.toNat ≤ 2 ^ 32
    ∧ (r.flags.getLsbD 0 = true → r.bank1.toNat % 4096 = 0 ∧ r.bank1.toNat + 4096 * r.size.toNat ≤ 2 ^ 32)
    ∧ (r.flags.getLsbD 1 = true → r.flags.getLsbD 0 = true)
    ∧ (r.owners = 2 → ∀ i < 3, r.rightsA.getLsbD i = false)
    ∧ (r.owners = 1 → ∀ i < 3, r.rightsB.getLsbD i = false) := by
  have hsize : r.size ≠ 0 ↔ 1 ≤ r.size.toNat := by
    rw [Nat.one_le_iff_ne_zero, ne_eq, ne_eq, BitVec.toNat_eq]
    rfl
  have howners : (r.owners = 1 ∨ r.owners = 2 ∨ r.owners = 3) →
      ((r.owners.getLsbD 0 = true ∨ rightsOf r.rightsA = .empty)
        ↔ (r.owners = 2 → ∀ i < 3, r.rightsA.getLsbD i = false))
      ∧ ((r.owners.getLsbD 1 = true ∨ rightsOf r.rightsB = .empty)
        ↔ (r.owners = 1 → ∀ i < 3, r.rightsB.getLsbD i = false)) := by
    rw [rightsOf_eq_empty, rightsOf_eq_empty]
    rintro (h | h | h) <;> rw [h] <;> simp
  have himp : ∀ (b : Bool) (q : Prop), ((!b) = true ∨ q) ↔ (b = true → q) := by
    rintro (_ | _) q <;> simp
  simp only [WindowRecord.valid, WindowRecord.hasBank1, WindowRecord.sizeBytes, Config.windowUnit, Bool.or_eq_true,
    Bool.and_eq_true, beq_iff_eq, bne_iff_ne, decide_eq_true_eq, aligned4K_iff, fits_iff, himp, hsize]
  constructor
  · rintro (h | ⟨⟨⟨⟨⟨⟨⟨⟨⟨⟨⟨⟨hs, ho⟩, hd⟩, hl⟩, h₀⟩, h₁⟩, hz⟩, fl⟩, f₀⟩, f₁⟩, hb⟩, ra⟩, rb⟩)
    · exact .inl h
    · exact .inr ⟨hs, or_assoc.mp ho, hd, hz, hl, fl, h₀, f₀, fun h => ⟨h₁ h, f₁ h⟩, hb,
        (howners (or_assoc.mp ho)).1.mp ra, (howners (or_assoc.mp ho)).2.mp rb⟩
  · rintro (h | ⟨hs, ho, hd, hz, hl, fl, h₀, f₀, h₁, hb, ra, rb⟩)
    · exact .inl h
    · exact .inr ⟨⟨⟨⟨⟨⟨⟨⟨⟨⟨⟨⟨hs, or_assoc.mpr ho⟩, hd⟩, hl⟩, h₀⟩, fun h => (h₁ h).1⟩, hz⟩, fl⟩, f₀⟩,
        fun h => (h₁ h).2⟩, hb⟩, (howners ho).1.mpr ra⟩, (howners ho).2.mpr rb⟩

/-- The entry that a valid record of an ACTIVE window makes. -/
theorem toWindow_of_active {r : WindowRecord} (h : r.state = 1) : r.toWindow =
    { active := true
      owners := ownersOf r.owners
      logicalBase := r.logicalBase
      size := r.sizeBytes
      device := Fin.ofNat 4 r.device.toNat
      bank0 := r.bank0
      bank1 := if r.hasBank1 then some r.bank1 else none
      activeBank := if r.flags.getLsbD 1 then .bank1 else .bank0
      rights := { a := rightsOf r.rightsA, b := rightsOf r.rightsB }
      swapOpen := r.flags.getLsbD 2
      report := r.flags.getLsbD 3
      useCount := 0
      swapPending := false } := by
  unfold WindowRecord.toWindow
  rw [if_pos (by rw [h]; rfl)]

/-- The entry that a record of an EMPTY window makes. -/
theorem toWindow_of_empty {r : WindowRecord} (h : r.state = 0) : r.toWindow = .empty := by
  unfold WindowRecord.toWindow
  rw [if_neg (by rw [h]; decide)]

theorem empty_wellFormed : Window.empty.wellFormed := rfl

/-- A valid record makes a well-formed entry (R21). -/
theorem toWindow_wellFormed {r : WindowRecord} (h : r.valid = true) : r.toWindow.wellFormed := by
  obtain h | ⟨hs, ho, _, hz, hl, fl, h₀, f₀, h₁, hb, ra, rb⟩ := (windowRecord_valid_iff r).mp h
  · rw [toWindow_of_empty h]
    exact empty_wellFormed
  · have hsize : r.sizeBytes = 4096 * r.size.toNat := rfl
    rw [toWindow_of_active hs]
    unfold Window.wellFormed
    rw [if_pos rfl]
    simp only [Config.windowUnit, Config.addressSpace, hsize]
    refine ⟨?_, fun p hp => ?_, fun hn => ⟨?_, trivial⟩, by omega, by omega, hl, fl, h₀, f₀, fun b hb => ?_⟩
    · rcases ho with h | h | h <;> rw [h] <;> simp [ownersOf]
    · cases p with
      | A => exact (rightsOf_eq_empty _).mpr (ra (by
          rcases ho with h | h | h <;> rw [h] at hp <;> simp [ownersOf, PerPort.get] at hp ⊢
          exact h))
      | B => exact (rightsOf_eq_empty _).mpr (rb (by
          rcases ho with h | h | h <;> rw [h] at hp <;> simp [ownersOf, PerPort.get] at hp ⊢
          exact h))
    · cases hflag : r.flags.getLsbD 1 with
      | false => rfl
      | true => simp [WindowRecord.hasBank1, hb hflag] at hn
    · cases hflag : r.flags.getLsbD 0 with
      | false =>
        rw [WindowRecord.hasBank1, hflag] at hb
        cases hb
      | true =>
        simp only [WindowRecord.hasBank1, hflag, if_true, Option.mem_def, Option.some.injEq] at hb
        exact hb ▸ h₁ hflag

/-! ## How a command changes the window table -/

/-- A window after answers and discards (R4, R7, R26): its configuration stays, its use count does not rise, and its
active bank flips only where swap pending ends with use count 0. -/
structure Window.Lowered (v v' : Window) : Prop where
  config : sameConfig v v'
  useCount : v'.useCount ≤ v.useCount
  bank : v'.activeBank ≠ v.activeBank → v'.useCount = 0
  flips : v'.activeBank ≠ v.activeBank → v.swapPending = true
  pending : v'.swapPending = true → v.swapPending = true
  swaps : (v.swapPending = true → 0 < v.useCount) → v'.swapPending = true → 0 < v'.useCount

theorem sameConfig.refl (v : Window) : sameConfig v v := ⟨rfl, rfl, rfl, rfl, rfl, rfl, rfl, rfl, rfl, rfl⟩

theorem sameConfig.trans {u v w : Window} (h : sameConfig u v) (h' : sameConfig v w) : sameConfig u w := by
  obtain ⟨a, b, c, d, e, f, g, i, j, k⟩ := h
  obtain ⟨a', b', c', d', e', f', g', i', j', k'⟩ := h'
  exact ⟨a.trans a', b.trans b', c.trans c', d.trans d', e.trans e', f.trans f', g.trans g', i.trans i', j.trans j',
    k.trans k'⟩

namespace Window.Lowered

theorem refl (v : Window) : v.Lowered v :=
  ⟨.refl v, le_rfl, fun h => absurd rfl h, fun h => absurd rfl h, id, id⟩

theorem trans {u v w : Window} (h : u.Lowered v) (h' : v.Lowered w) : u.Lowered w where
  config := h.config.trans h'.config
  useCount := h'.useCount.trans h.useCount
  bank hb := by
    by_cases e : w.activeBank = v.activeBank
    · have := h.bank (e ▸ hb)
      have := h'.useCount
      omega
    · exact h'.bank e
  flips hb := by
    by_cases e : w.activeBank = v.activeBank
    · exact h.flips (e ▸ hb)
    · exact h.pending (h'.flips e)
  pending hp := h.pending (h'.pending hp)
  swaps hs := h'.swaps (h.swaps hs)

/-- The reset sequences discard every use and every pending swap (R7). -/
theorem discard (v : Window) : v.Lowered v.discard :=
  ⟨.refl v, Nat.zero_le _, fun _ => rfl, fun h => absurd rfl h, nofun, fun _ => nofun⟩

/-- An answer lowers a use count, and flips the bank of a pending swap at 0 (R4, R26). -/
theorem answer (v : Window) : v.Lowered
    (if v.useCount = 1 ∧ v.swapPending = true then
      { v with useCount := 0, activeBank := v.activeBank.flip, swapPending := false }
    else { v with useCount := v.useCount - 1 }) := by
  split
  · next h => exact ⟨.refl v, Nat.zero_le _, fun _ => rfl, fun _ => h.2, nofun, fun _ => nofun⟩
  · next h =>
    refine ⟨.refl v, Nat.sub_le _ _, fun hb => absurd rfl hb, fun hb => absurd rfl hb, id, fun hs hp => ?_⟩
    have hp : v.swapPending = true := hp
    have := hs hp
    have : v.useCount ≠ 1 := fun e => h ⟨e, hp⟩
    show 0 < v.useCount - 1
    omega

/-- A lowered window is well formed where it was. -/
theorem wellFormed {v v' : Window} (h : v.Lowered v') (hv : v.wellFormed) : v'.wellFormed := by
  obtain ⟨hact, hown, hbase, hsize, hdev, h₀, h₁, hrights, hopen, hrep⟩ := h.config
  have hbank : v.swapPending = false → v'.activeBank = v.activeBank ∧ v'.swapPending = false := fun hs =>
    ⟨by_contra fun hne => absurd (hs.symm.trans (h.flips hne)) nofun,
      Bool.eq_false_iff.mpr fun hne => absurd (hs.symm.trans (h.pending hne)) nofun⟩
  unfold Window.wellFormed at hv ⊢
  rw [← hact]
  split
  · next ha =>
    rw [if_pos ha] at hv
    rw [← hown, ← hbase, ← hsize, ← h₀, ← h₁, ← hrights]
    obtain ⟨a, b, c, d⟩ := hv
    exact ⟨a, b, fun hn => ⟨((hbank (c hn).2).1).trans (c hn).1, (hbank (c hn).2).2⟩, d⟩
  · next ha =>
    rw [if_neg ha] at hv
    subst hv
    obtain ⟨hb, hs⟩ := hbank rfl
    have hu := Nat.le_zero.mp h.useCount
    cases v'
    rw [Window.empty, Window.mk.injEq]
    exact ⟨hact.symm, hown.symm, hbase.symm, hsize.symm, hdev.symm, h₀.symm, h₁.symm, hb, hrights.symm, hopen.symm,
      hrep.symm, hu, hs⟩

end Window.Lowered

/-- What a request puts in the place of a window entry: one use more of an ACTIVE window (R17), the other bank or a
pending swap (R25), or what WINDOW_WRITE writes (R22). -/
inductive State.Replaceable (s : State) (n : WindowNo) : Window → Prop where
  | queued (hactive : (s.window n).active = true) (hswap : (s.window n).swapPending = false) :
      s.Replaceable n { s.window n with useCount := (s.window n).useCount + 1 }
  | flipped (hactive : (s.window n).active = true) (hbank : (s.window n).bank1 ≠ none)
      (huse : (s.window n).useCount = 0) (hswap : (s.window n).swapPending = false)
      (hfrozen : s.frozen = true → (s.window n).swapOpen = true) :
      s.Replaceable n { s.window n with activeBank := (s.window n).activeBank.flip }
  | deferred (hactive : (s.window n).active = true) (hbank : (s.window n).bank1 ≠ none)
      (huse : 0 < (s.window n).useCount) (hfrozen : s.frozen = true → (s.window n).swapOpen = true) :
      s.Replaceable n { s.window n with swapPending := true }
  | written (r : WindowRecord) (hfrozen : s.frozen = false) (huse : (s.window n).useCount = 0)
      (hswap : (s.window n).swapPending = false) (hvalid : r.valid = true)
      (hoverlap : ∀ m, m ≠ n → r.toWindow.collides (s.window m) = false) : s.Replaceable n r.toWindow

/-- A state after answers and discards: its windows are lowered, its frozen flag stays. -/
structure State.Lowers (s t : State) : Prop where
  windows : ∀ w, (s.window w).Lowered (t.window w)
  frozen : t.frozen = s.frozen

/-- All that a command other than power can do to the window table and the frozen flag. -/
inductive State.WindowChange (s t : State) : Prop where
  | lowered (h : s.Lowers t)
  | replaced (n : WindowNo) (v : Window) (hv : s.Replaceable n v)
      (hw : ∀ w, t.window w = if w = n then v else s.window w) (hf : t.frozen = s.frozen)
  | froze (hw : ∀ w, t.window w = s.window w) (hf : t.frozen = true)
      (hs : ∀ w, (s.window w).swapPending = true → (s.window w).swapOpen = true)

namespace State

variable {s t u : State}

/-- The window table and the frozen flag stay. -/
theorem Lowers.of_same (hw : t.windows = s.windows) (hf : t.frozen = s.frozen) : s.Lowers t :=
  ⟨fun w => by rw [window, window, hw]; exact .refl _, hf⟩

theorem Lowers.trans (h : s.Lowers t) (h' : t.Lowers u) : s.Lowers u :=
  ⟨fun w => (h.windows w).trans (h'.windows w), h'.frozen.trans h.frozen⟩

theorem Lowers.before (h : t.Lowers u) (hw : t.windows = s.windows) (hf : t.frozen = s.frozen) : s.Lowers u :=
  (Lowers.of_same hw hf).trans h

theorem Lowers.after (h : s.Lowers t) (hw : u.windows = t.windows) (hf : u.frozen = t.frozen) : s.Lowers u :=
  h.trans (.of_same hw hf)

theorem WindowChange.of_same (hw : t.windows = s.windows) (hf : t.frozen = s.frozen) : s.WindowChange t :=
  .lowered (.of_same hw hf)

theorem WindowChange.refl (s : State) : s.WindowChange s := .of_same rfl rfl

theorem Replaceable.congr {n : WindowNo} {v : Window} (h : s.Replaceable n v) (hw : t.windows = s.windows)
    (hf : t.frozen = s.frozen) : t.Replaceable n v := by
  have he : ∀ w, s.window w = t.window w := fun w => by rw [window, window, hw]
  have hu := he n
  cases h with
  | queued a b => rw [hu] at a b ⊢; exact .queued a b
  | flipped a b c d e => rw [hu] at a b c d e ⊢; exact .flipped a b c d (hf ▸ e)
  | deferred a b c d => rw [hu] at a b c d ⊢; exact .deferred a b c (hf ▸ d)
  | written r a b c d e => exact .written r (hf ▸ a) (hu ▸ b) (hu ▸ c) d fun m hm => he m ▸ e m hm

/-- The window table and the frozen flag stay before the change. -/
theorem WindowChange.before (h : t.WindowChange u) (hw : t.windows = s.windows) (hf : t.frozen = s.frozen) :
    s.WindowChange u := by
  have he : ∀ w, t.window w = s.window w := fun w => by rw [window, window, hw]
  cases h with
  | lowered a => exact .lowered (a.before hw hf)
  | replaced n v a b c =>
    exact .replaced n v (a.congr hw.symm hf.symm) (fun w => by rw [b w, he w]) (c.trans hf)
  | froze a b c => exact .froze (fun w => (a w).trans (he w)) b fun w => he w ▸ c w

/-- The window table and the frozen flag stay after the change. -/
theorem WindowChange.after (h : s.WindowChange t) (hw : u.windows = t.windows) (hf : u.frozen = t.frozen) :
    s.WindowChange u := by
  have he : ∀ w, u.window w = t.window w := fun w => by rw [window, window, hw]
  cases h with
  | lowered a => exact .lowered (a.after hw hf)
  | replaced n v a b c => exact .replaced n v a (fun w => (he w).trans (b w)) (hf.trans c)
  | froze a b c => exact .froze (fun w => (he w).trans (a w)) (hf.trans b) c

theorem Lowers.close (h : s.Lowers t) : s.Lowers t.close := h.after t.close_windows t.close_frozen
theorem Lowers.raise (h : s.Lowers t) (p : Port) (n : Notice) : s.Lowers (t.raise p n) := h.after rfl rfl
theorem Lowers.respond (h : s.Lowers t) (p : Port) (m : Message) : s.Lowers (t.respond p m) := h.after rfl rfl
theorem Lowers.setTracker (h : s.Lowers t) (d : Device) (v : Tracker) : s.Lowers (t.setTracker d v) :=
  h.after rfl rfl

theorem WindowChange.close (h : s.WindowChange t) : s.WindowChange t.close := h.after t.close_windows t.close_frozen
theorem WindowChange.reply (h : s.WindowChange t) (p : Port) (k : RequestKind) (tag : Byte) (st : Status)
    (data : ResponseData) : s.WindowChange (t.reply p k tag st data) := h.after rfl rfl

/-- A control request that is only answered. -/
theorem WindowChange.of_reply (p : Port) (k : RequestKind) (tag : Byte) (st : Status) (data : ResponseData) :
    s.WindowChange (s.reply p k tag st data) := (WindowChange.refl s).reply ..

/-- One entry replaced, its new value one that a request puts there. -/
theorem WindowChange.setWindow {n : WindowNo} {v : Window} (h : s.Replaceable n v) :
    s.WindowChange (s.setWindow n v) :=
  .replaced n v h (fun w => s.window_setWindow w n v) rfl

/-! ## Answers and discards -/

theorem lowers_answer (p : Port) (m : Message) (w : WindowNo) (d : Device) : s.Lowers (s.answer p m w d) := by
  refine ⟨fun v => ?_, by rw [answer_frame]⟩
  rw [answer_window]
  split
  · next e => subst e; exact .answer _
  · exact .refl _

theorem lowers_answerAll (d : Device) (l : List OpRecord) : s.Lowers (s.answerAll d l) := by
  induction l generalizing s with
  | nil => exact .of_same rfl rfl
  | cons rec l ih => exact (lowers_answer ..).trans ih

theorem lowers_answerFaults (l : List Request) : s.Lowers (s.answerFaults l) := by
  induction l generalizing s with
  | nil => exact .of_same rfl rfl
  | cons r l ih => exact (lowers_answer ..).trans ih

theorem lowers_discard : s.Lowers s.discard :=
  ⟨fun w => by rw [discard_window]; exact .discard _, rfl⟩

theorem lowers_warmBegin : s.Lowers s.warmBegin := lowers_discard.after rfl rfl
theorem lowers_pinBegin : s.Lowers s.pinBegin := lowers_discard.after rfl rfl

theorem lowers_drain (d : Device) (p : Port) : s.Lowers (s.drain d p) := by
  unfold drain
  exact (lowers_answerFaults _).before rfl rfl

theorem lowers_quarantine (d : Device) : s.Lowers (s.quarantine d) := by
  unfold quarantine
  have h₁ : s.Lowers (s.setTracker d ((s.tracker d).settled .faulted)) := .of_same rfl rfl
  exact (((h₁.trans (lowers_drain d .A)).trans (lowers_drain d .B)).raise ..).close

theorem lowers_resetDone (d : Device) : s.Lowers (s.resetDone d) := by
  unfold resetDone
  exact (lowers_answerAll d _).setTracker ..

theorem lowers_pollResult (d : Device) (b : Byte) : s.Lowers (s.pollResult d b) := by
  unfold pollResult
  dsimp only
  split
  · exact .of_same rfl rfl
  · exact .of_same rfl rfl
  · exact .of_same rfl rfl
  · refine Lowers.setTracker ?_ ..
    unfold answerTop
    split
    · exact lowers_answer ..
    · exact .of_same rfl rfl

/-! ## Requests -/

theorem WindowChange.intake {p : Port} {tag : Byte} {g : Group} {f : State → State}
    (hf : ∀ s' : State, s'.WindowChange (f s')) : s.WindowChange (s.intake p tag g f) := by
  obtain ⟨_, e⟩ | ⟨_, e⟩ := s.intake_cases p tag g f
  · rw [e]
    exact .of_same rfl rfl
  · rw [e]
    have h : s.WindowChange (f (s.accept p)) := (hf (s.accept p)).before rfl rfl
    exact h.after rfl rfl

theorem refuse_keeps_windows (p : Port) (tag : Byte) (k : RequestKind) (st : Status) (w : Option WindowNo) :
    (s.refuse p tag k st w).windows = s.windows ∧ (s.refuse p tag k st w).frozen = s.frozen := by
  unfold refuse raiseDenialNotice
  dsimp only
  split
  · split <;> exact ⟨rfl, rfl⟩
  · exact ⟨rfl, rfl⟩

theorem WindowChange.memoryRequest (p : Port) (tag : Byte) (a : Word) (ask : Ask) :
    s.WindowChange (s.memoryRequest p tag a ask) := by
  unfold State.memoryRequest
  split
  · exact (WindowChange.of_same (refuse_keeps_windows ..).1 (refuse_keeps_windows ..).2).close
  · next r hr =>
    obtain ⟨_, hactive, hswap⟩ := check_translated hr
    exact (WindowChange.replaced (t := s.enqueue r) r.window _ (.queued hactive hswap) (s.enqueue_window r) rfl).close

theorem WindowChange.windowWriteDo (p : Port) (tag : Byte) (n : Word) (r : WindowRecord) :
    s.WindowChange (s.windowWriteDo p tag n r) := by
  unfold State.windowWriteDo
  split
  · exact .of_reply ..
  · next n hn =>
    obtain ⟨_, hf, _, hu, hs, hv, ho⟩ := windowWriteCheck_inr hn
    refine (WindowChange.setWindow (.written r hf hu hs hv fun m hm => ?_)).reply ..
    exact Bool.eq_false_iff.mpr fun hc => absurd (ho.symm.trans (wouldOverlap_iff.mpr ⟨m, hm, hc⟩)) nofun

theorem WindowChange.swapDo (p : Port) (tag : Byte) (n : Word) : s.WindowChange (s.swapDo p tag n) := by
  unfold State.swapDo
  split
  · exact .of_reply ..
  · next n hn =>
    obtain ⟨_, _, ha, hb, hf, hs⟩ := swapCheck_inr hn
    dsimp only
    split
    · next hu => exact (WindowChange.setWindow (.flipped ha hb hu hs hf)).reply ..
    · next hu => exact (WindowChange.setWindow (.deferred ha hb (Nat.pos_of_ne_zero hu) hf)).reply ..

theorem WindowChange.freezeDo (p : Port) (tag : Byte) : s.WindowChange (s.freezeDo p tag) := by
  unfold State.freezeDo
  split
  · exact .of_reply ..
  · split
    · exact .of_reply ..
    · next hs =>
      refine WindowChange.reply (.froze (s := s) (t := { s with frozen := true }) (fun _ => rfl) rfl fun w hp => ?_) ..
      simp only [swapBlocksFreeze, Vector.any_eq_true, Bool.and_eq_true, Bool.not_eq_true', not_exists, not_and,
        Bool.not_eq_false] at hs
      exact hs w.val w.isLt hp

theorem WindowChange.windowReadDo (p : Port) (tag : Byte) (n : Word) : s.WindowChange (s.windowReadDo p tag n) := by
  unfold State.windowReadDo
  split
  · exact .of_reply ..
  · split <;> exact .of_reply ..

theorem WindowChange.profileWriteDo (p : Port) (tag : Byte) (n : Word) (r : ProfileRecord) :
    s.WindowChange (s.profileWriteDo p tag n r) := by
  unfold State.profileWriteDo
  split
  · exact .of_reply ..
  · refine WindowChange.reply (.of_same ?_ ?_) .. <;> rfl

theorem WindowChange.profileReadDo (p : Port) (tag : Byte) (n : Word) : s.WindowChange (s.profileReadDo p tag n) := by
  unfold State.profileReadDo
  split <;> exact .of_reply ..

theorem WindowChange.handoverDo (p : Port) (tag : Byte) : s.WindowChange (s.handoverDo p tag) := by
  unfold State.handoverDo
  split
  · exact .of_reply ..
  · split
    · exact .of_reply ..
    · refine WindowChange.close (.of_same ?_ ?_) <;> rfl

theorem WindowChange.statusReadDo (p : Port) (tag : Byte) (c : Bool) : s.WindowChange (s.statusReadDo p tag c) := by
  unfold State.statusReadDo
  split
  · exact .of_reply ..
  · cases c
    · exact .of_reply ..
    · refine WindowChange.reply (.of_same ?_ ?_) .. <;> rfl

theorem lowers_abortTarget (p : Port) (tag : Byte) (target : Target) : s.Lowers (s.abortTarget p tag target) := by
  cases target with
  | notFound => exact .of_same rfl rfl
  | waiting r => exact (lowers_answer ..).before rfl rfl
  | inJob r => exact .of_same rfl rfl
  | record d => exact .of_same rfl rfl

theorem WindowChange.abortDo (p : Port) (tag : Byte) (q : Port) (u : Byte) :
    s.WindowChange (s.abortDo p tag q u) := by
  unfold State.abortDo
  split
  · exact .of_reply ..
  split
  · exact .of_reply ..
  · exact .lowered ((lowers_abortTarget q u _).respond ..).close

theorem WindowChange.warmResetDo (p : Port) (tag : Byte) (e : Half) : s.WindowChange (s.warmResetDo p tag e) := by
  unfold State.warmResetDo
  split
  · exact .of_reply ..
  · split
    · exact .of_reply ..
    · exact .lowered lowers_warmBegin

theorem WindowChange.handRequest (p : Port) (tag : Byte) (r : FrameRequest) :
    s.WindowChange (s.handRequest p tag r) := by
  cases r with
  | null => exact .intake fun _ => .refl _
  | unknown => exact .intake fun _ => .refl _
  | read a n => exact .intake fun _ => .memoryRequest ..
  | program a data => exact .intake fun _ => .memoryRequest ..
  | erase a k => exact .intake fun _ => .memoryRequest ..
  | windowWrite w r => exact .intake fun _ => .windowWriteDo ..
  | windowRead w => exact .intake fun _ => .windowReadDo ..
  | profileWrite d r => exact .intake fun _ => .profileWriteDo ..
  | profileRead d => exact .intake fun _ => .profileReadDo ..
  | swap w => exact .intake fun _ => .swapDo ..
  | freeze => exact .intake fun _ => .freezeDo ..
  | handover => exact .intake fun _ => .handoverDo ..
  | statusRead c => exact .intake fun _ => .statusReadDo ..
  | abort q t => exact .intake fun _ => .abortDo ..
  | warmReset e => exact .intake fun _ => .warmResetDo ..

end State
end Sys2Proof.Machine
end

section
/-! SUPPORT. Every command's change of the window table, and what keeps the laws of the table. -/

namespace Sys2Proof.Machine

namespace State

variable {s t u : State}

/-! ## Frames, the bus and the reset sequences -/

theorem removal_keeps_windows (p : Port) (f : Frame) :
    (s.removal p f).windows = s.windows ∧ (s.removal p f).frozen = s.frozen := by
  unfold removal
  split <;> exact ⟨rfl, rfl⟩

theorem WindowChange.frameEnd (p : Port) (x : Fin 8) : s.WindowChange (s.frameEnd p x) := by
  unfold State.frameEnd
  split
  · exact .refl s
  · exact .of_same rfl rfl
  · unfold State.frameEndWork
    dsimp only
    have hm : ∀ l f, (((s.setLink p l).removal p f).moveNotices p).windows = s.windows
        ∧ (((s.setLink p l).removal p f).moveNotices p).frozen = s.frozen := fun l f => removal_keeps_windows p f
    refine WindowChange.after ?_ (driveAttention_windows _) (driveAttention_frozen _)
    split
    · exact (WindowChange.handRequest ..).before (hm ..).1 (hm ..).2
    · exact .of_same (hm ..).1 (hm ..).2

theorem WindowChange.frameBegin (p : Port) : s.WindowChange (s.frameBegin p) := by
  unfold State.frameBegin
  split <;> exact .of_same rfl rfl

theorem WindowChange.inboundByte (p : Port) (b : Byte) : s.WindowChange (s.inboundByte p b) := by
  unfold State.inboundByte
  dsimp only
  split <;> exact .of_same rfl rfl

theorem WindowChange.busGrant : s.WindowChange s.busGrant := by
  unfold State.busGrant
  split
  · next k _ _ => cases k <;> exact .of_same rfl rfl
  · exact .refl s

theorem WindowChange.readJobComplete (l : List Byte) : s.WindowChange (s.readJobComplete l) := by
  unfold State.readJobComplete
  split
  · split
    · dsimp only
      split
      · exact .of_same rfl rfl
      · exact .close (.lowered ((lowers_answer ..).before rfl rfl))
    · exact .refl s
  · exact .refl s

theorem WindowChange.startJobComplete : s.WindowChange s.startJobComplete := by
  unfold State.startJobComplete
  split
  · split
    · exact .refl s
    · dsimp only
      split <;> exact .of_same rfl rfl
  · exact .refl s

theorem WindowChange.pollComplete (b : Option Byte) : s.WindowChange (s.pollComplete b) := by
  unfold State.pollComplete
  split
  · dsimp only
    split
    · exact .of_same rfl rfl
    · exact .close (.lowered ((lowers_pollResult ..).before rfl rfl))
  · exact .refl s

theorem WindowChange.suspendComplete : s.WindowChange s.suspendComplete := by
  unfold State.suspendComplete
  split
  · dsimp only
    split <;> exact .of_same rfl rfl
  · exact .refl s

theorem WindowChange.resumeComplete : s.WindowChange s.resumeComplete := by
  unfold State.resumeComplete
  split
  · dsimp only
    split <;> exact .of_same rfl rfl
  · exact .refl s

theorem WindowChange.resetJobComplete : s.WindowChange s.resetJobComplete := by
  unfold State.resetJobComplete
  split
  · dsimp only
    split
    · exact .of_same rfl rfl
    · exact .close (.lowered ((lowers_resetDone ..).before rfl rfl))
  · exact .refl s

theorem WindowChange.powered (hu : s.WindowChange u) (he : s.powered u = .next t) : s.WindowChange t := by
  obtain rfl | rfl := powered_next he
  · exact .refl _
  · exact hu

theorem WindowChange.next (hu : s.WindowChange u) (he : (.next u : Host.Outcome State Fault Refusal) = .next t) :
    s.WindowChange t := by
  cases he
  exact hu

/-- What every command other than power does to the window table and the frozen flag. -/
theorem WindowChange.exec {c : Instr} (hc : c.isPower = false) (he : exec c s = .next t) : s.WindowChange t := by
  cases c with
  | coldStart pin a b => cases hc
  | powerOff => cases hc
  | coldStartEnd =>
    refine WindowChange.next ?_ he
    split <;> exact .of_same rfl rfl
  | timeBaseTick => exact WindowChange.powered (.of_same (t := s.tick) rfl rfl) he
  | frameBegin p => exact WindowChange.powered (.frameBegin p) he
  | frameEnd p x => exact WindowChange.powered (.frameEnd p x) he
  | null p t => exact WindowChange.powered (.handRequest p t .null) he
  | read p t a n => exact WindowChange.powered (.handRequest p t (.read a n)) he
  | program p t a data => exact WindowChange.powered (.handRequest p t (.program a data)) he
  | erase p t a k => exact WindowChange.powered (.handRequest p t (.erase a k)) he
  | windowWrite p t n r => exact WindowChange.powered (.handRequest p t (.windowWrite n r)) he
  | windowRead p t n => exact WindowChange.powered (.handRequest p t (.windowRead n)) he
  | profileWrite p t n r => exact WindowChange.powered (.handRequest p t (.profileWrite n r)) he
  | profileRead p t n => exact WindowChange.powered (.handRequest p t (.profileRead n)) he
  | swap p t n => exact WindowChange.powered (.handRequest p t (.swap n)) he
  | freeze p t => exact WindowChange.powered (.handRequest p t .freeze) he
  | handover p t => exact WindowChange.powered (.handRequest p t .handover) he
  | statusRead p t c => exact WindowChange.powered (.handRequest p t (.statusRead c)) he
  | abort p t q u => exact WindowChange.powered (.handRequest p t (.abort q u)) he
  | warmReset p t e => exact WindowChange.powered (.handRequest p t (.warmReset e)) he
  | clearStep =>
    refine WindowChange.next ?_ he
    split <;> exact .of_same rfl rfl
  | resetSequenceEnd =>
    refine WindowChange.next ?_ he
    split <;> exact .of_same rfl rfl
  | resetPinAssert =>
    refine WindowChange.next ?_ he
    split
    · exact .refl s
    · exact .of_same rfl rfl
    · split
      · exact .refl s
      · exact .lowered lowers_pinBegin
  | resetPinRelease =>
    refine WindowChange.next ?_ he
    split
    · split <;> exact .of_same rfl rfl
    · exact .refl s
  | busGrant => exact WindowChange.powered .busGrant he
  | readJobComplete l => exact WindowChange.powered (.readJobComplete l) he
  | startJobComplete => exact WindowChange.powered .startJobComplete he
  | pollComplete b => exact WindowChange.powered (.pollComplete b) he
  | suspendComplete => exact WindowChange.powered .suspendComplete he
  | resumeComplete => exact WindowChange.powered .resumeComplete he
  | resetJobComplete => exact WindowChange.powered .resetJobComplete he
  | pollTimerExpiry d =>
    refine WindowChange.powered ?_ he
    split <;> exact .of_same rfl rfl
  | deadlineExpiry d =>
    refine WindowChange.powered ?_ he
    split <;> exact .of_same rfl rfl
  | suspendSettleExpiry d =>
    refine WindowChange.powered ?_ he
    split <;> exact .of_same rfl rfl
  | resetSettleExpiry d =>
    refine WindowChange.powered ?_ he
    split
    · split
      · exact .lowered (lowers_quarantine d)
      · exact .of_same rfl rfl
    · exact .refl s
  | inboundByte p b => exact WindowChange.powered (.inboundByte p b) he
  | clkPeriod =>
    refine WindowChange.powered ?_ he
    split <;> exact .of_same rfl rfl

end State

/-! ## The laws of the window table -/

theorem overlaps_comm (a m b n : Nat) : overlaps a m b n = overlaps b n a m := Bool.and_comm ..

theorem collides_comm (v w : Window) : v.collides w = w.collides v := by
  unfold Window.collides sharesOwner
  rw [overlaps_comm, Bool.and_comm v.active, Bool.and_comm v.owners.a, Bool.and_comm v.owners.b]

/-- Whether two windows collide is a matter of their configuration. -/
theorem collides_congr {v v' w w' : Window} (h : sameConfig v v') (h' : sameConfig w w') :
    v'.collides w' = v.collides w := by
  obtain ⟨ha, ho, hl, hs, _⟩ := h
  obtain ⟨ha', ho', hl', hs', _⟩ := h'
  unfold Window.collides sharesOwner
  rw [ha, ho, hl, hs, ha', ho', hl', hs']

namespace State

variable {s t : State}

/-- What replaces an entry is well formed where the entry was. -/
theorem Replaceable.wellFormed {n : WindowNo} {v : Window} (h : s.Replaceable n v)
    (hn : (s.window n).wellFormed) : v.wellFormed := by
  cases h with
  | written r _ _ _ hv _ => exact toWindow_wellFormed hv
  | queued ha _ =>
    unfold Window.wellFormed at hn ⊢
    rw [if_pos ha] at hn
    rw [if_pos (by exact ha)]
    exact hn
  | flipped ha hb _ _ _ =>
    unfold Window.wellFormed at hn ⊢
    rw [if_pos ha] at hn
    rw [if_pos (by exact ha)]
    obtain ⟨ho, hr, _, hrest⟩ := hn
    exact ⟨ho, hr, fun h => absurd h hb, hrest⟩
  | deferred ha hb _ _ =>
    unfold Window.wellFormed at hn ⊢
    rw [if_pos ha] at hn
    rw [if_pos (by exact ha)]
    obtain ⟨ho, hr, _, hrest⟩ := hn
    exact ⟨ho, hr, fun h => absurd h hb, hrest⟩

/-- What replaces an entry collides with no other entry, where the entry did not. -/
theorem Replaceable.disjoint {n : WindowNo} {v : Window} (h : s.Replaceable n v) (hs : WindowLaw s) (m : WindowNo)
    (hm : m ≠ n) : v.collides (s.window m) = false := by
  cases h with
  | written r _ _ _ _ ho => exact ho m hm
  | queued _ _ => exact (collides_congr (.refl (s.window n)) (.refl _)).trans (hs n m hm.symm)
  | flipped _ _ _ _ _ => exact (collides_congr (.refl (s.window n)) (.refl _)).trans (hs n m hm.symm)
  | deferred _ _ _ _ => exact (collides_congr (.refl (s.window n)) (.refl _)).trans (hs n m hm.symm)

/-- What replaces an entry has swap pending only above use count 0. -/
theorem Replaceable.swaps {n : WindowNo} {v : Window} (h : s.Replaceable n v) (hp : v.swapPending = true) :
    0 < v.useCount := by
  cases h with
  | written r _ _ _ _ _ => rw [toWindow_swapPending] at hp; cases hp
  | queued _ hs => exact absurd (hs.symm.trans hp) nofun
  | flipped _ _ _ hs _ => exact absurd (hs.symm.trans hp) nofun
  | deferred _ _ hu _ => exact hu

/-- While frozen, what replaces an entry has swap pending only where the window is swap-open. -/
theorem Replaceable.freeze {n : WindowNo} {v : Window} (h : s.Replaceable n v) (hf : s.frozen = true)
    (hp : v.swapPending = true) : v.swapOpen = true := by
  cases h with
  | written r hn _ _ _ _ => exact absurd (hn.symm.trans hf) nofun
  | queued _ hs => exact absurd (hs.symm.trans hp) nofun
  | flipped _ _ _ hs _ => exact absurd (hs.symm.trans hp) nofun
  | deferred _ _ _ ho => exact ho hf

/-- An update of one entry whose new value collides with no other keeps the entries apart (R2). -/
theorem windowLaw_of_replaced {n : WindowNo} {v : Window} (hs : WindowLaw s)
    (hw : ∀ w, t.window w = if w = n then v else s.window w)
    (hv : ∀ m, m ≠ n → v.collides (s.window m) = false) : WindowLaw t := by
  intro a b hab
  rw [hw a, hw b]
  split
  · next ha =>
    subst ha
    rw [if_neg hab.symm]
    exact hv b hab.symm
  · next ha =>
    split
    · rw [collides_comm]
      exact hv a ha
    · exact hs a b hab

/-- Every change of the window table keeps its laws. -/
theorem WindowChange.laws (h : s.WindowChange t) (hs : WindowLaws s) : WindowLaws t := by
  cases h with
  | lowered h =>
    refine ⟨fun v w hvw => ?_, fun w => (h.windows w).wellFormed (hs.form w),
      fun w => (h.windows w).swaps (hs.swaps w), fun hf w hp => ?_⟩
    · rw [collides_congr (h.windows v).config (h.windows w).config]
      exact hs.disjoint v w hvw
    · obtain ⟨_, _, _, _, _, _, _, _, hopen, _⟩ := (h.windows w).config
      rw [← hopen]
      exact hs.freeze (h.frozen ▸ hf) w ((h.windows w).pending hp)
  | replaced n v hv hw hf =>
    refine ⟨windowLaw_of_replaced hs.disjoint hw (hv.disjoint hs.disjoint), fun w => ?_, fun w hp => ?_,
      fun hz w hp => ?_⟩
    · rw [hw]
      split
      · exact hv.wellFormed (hs.form n)
      · exact hs.form w
    · rw [hw] at hp ⊢
      split at hp
      · next e => rw [if_pos e]; exact hv.swaps hp
      · next e => rw [if_neg e]; exact hs.swaps w hp
    · rw [hf] at hz
      rw [hw] at hp ⊢
      split at hp
      · next e => rw [if_pos e]; exact hv.freeze hz hp
      · next e => rw [if_neg e]; exact hs.freeze hz w hp
  | froze hw _ ho =>
    refine ⟨fun v w hvw => ?_, fun w => ?_, fun w hp => ?_, fun _ w hp => ?_⟩
    · rw [hw, hw]
      exact hs.disjoint v w hvw
    · rw [hw]
      exact hs.form w
    · rw [hw] at hp ⊢
      exact hs.swaps w hp
    · rw [hw] at hp ⊢
      exact ho w hp

/-- With every window EMPTY the laws hold (R6). -/
theorem windowLaws_of_empty (h : ∀ w, s.window w = .empty) : WindowLaws s := by
  refine ⟨fun v w _ => ?_, fun w => ?_, fun w hp => ?_, fun _ w hp => ?_⟩
  · rw [h v]
    rfl
  · rw [h]
    exact empty_wellFormed
  · rw [h] at hp
    cases hp
  · rw [h] at hp
    cases hp

end State

/-- Settles O54: each change that a command makes keeps the laws, and power leaves every window EMPTY. -/
theorem windowLawsKept : Obligations.WindowLawsKept := by
  intro s t hs h
  obtain rfl | ⟨c, rest, _, he⟩ := State.step_next h
  · exact hs
  · have hs' : WindowLaws { s with pending := rest } := ⟨hs.disjoint, hs.form, hs.swaps, hs.freeze⟩
    cases hc : c.isPower with
    | false => exact (State.WindowChange.exec hc he).laws hs'
    | true =>
      cases c with
      | coldStart pin a b =>
        cases he
        exact State.windowLaws_of_empty fun w => State.cold_window w ..
      | powerOff =>
        cases he
        exact State.windowLaws_of_empty fun w => State.cold_window w ..
      | _ => cases hc

/-- Settles O57: lowering a use count flips a bank only at 0, and a request replaces a bank or a configuration only
where the use count is 0. -/
theorem windowsChangeOnlyUnused : Obligations.WindowsChangeOnlyUnused := by
  intro c s t w hc he
  cases State.WindowChange.exec hc he with
  | lowered h => exact ⟨(h.windows w).bank, fun hn => absurd (h.windows w).config hn⟩
  | froze hw _ _ =>
    rw [hw]
    exact ⟨fun hb => absurd rfl hb, fun hn => absurd (.refl _) hn⟩
  | replaced n v hv hw _ =>
    rw [hw]
    split
    · next e =>
      subst e
      cases hv with
      | queued _ _ => exact ⟨fun hb => absurd rfl hb, fun hn => absurd (.refl _) hn⟩
      | flipped _ _ hu _ _ => exact ⟨fun _ => hu, fun hn => absurd (.refl _) hn⟩
      | deferred _ _ _ _ => exact ⟨fun hb => absurd rfl hb, fun hn => absurd (.refl _) hn⟩
      | written r _ hu _ _ _ => exact ⟨fun _ => toWindow_useCount r, fun _ => ⟨hu, toWindow_useCount r⟩⟩
    · exact ⟨fun hb => absurd rfl hb, fun hn => absurd (.refl _) hn⟩

end Sys2Proof.Machine
end

section
/-! SUPPORT. The length check and the seven steps of translation, each as one rule. -/

namespace Sys2Proof.Machine

namespace State

variable {s : State} {p : Port} {tag : Byte} {a : Word} {ask : Ask} {w : WindowNo}

/-! ## Step 1: the window lookup (R9) -/

theorem covers_iff {a : Nat} : (s.window w).covers p a = true ↔ s.Covers p a w := by
  simp only [Window.covers, Bool.and_eq_true, decide_eq_true_eq]
  exact ⟨fun ⟨⟨⟨hact, hown⟩, hl⟩, hu⟩ => ⟨hact, hown, hl, hu⟩, fun ⟨hact, hown, hl, hu⟩ => ⟨⟨⟨hact, hown⟩, hl⟩, hu⟩⟩

/-- By the law of R2 at most one window covers an address for a port. -/
theorem covers_unique (hs : WindowLaw s) {a : Nat} {v w : WindowNo} (hv : s.Covers p a v) (hw : s.Covers p a w) :
    v = w := by
  by_contra hne
  have hshare : sharesOwner (s.window v) (s.window w) = true := by
    have h₁ := hv.owner
    have h₂ := hw.owner
    cases p <;> simp only [PerPort.get] at h₁ h₂ <;> simp [sharesOwner, h₁, h₂]
  have hover : overlaps (s.window v).logicalBase.toNat (s.window v).size (s.window w).logicalBase.toNat
      (s.window w).size = true := by
    have h₁ := hv.lower
    have h₂ := hv.upper
    have h₃ := hw.lower
    have h₄ := hw.upper
    simp only [overlaps, Bool.and_eq_true, decide_eq_true_eq]
    omega
  have := hs v w hne
  rw [Window.collides, hv.active, hw.active, hshare, hover] at this
  cases this

theorem findWindow_iff (hs : WindowLaw s) {a : Nat} : s.findWindow p a = some w ↔ s.Covers p a w := by
  refine ⟨fun h => covers_iff.mp (findWindow_covers h), fun h => ?_⟩
  cases hf : s.findWindow p a with
  | some v => rw [covers_unique hs (covers_iff.mp (findWindow_covers hf)) h]
  | none =>
    rw [findWindow, List.find?_eq_none] at hf
    exact absurd (covers_iff.mpr h) (hf w (List.mem_finRange w))

theorem findWindow_none {a : Nat} (h : ∀ w, ¬ s.Covers p a w) : s.findWindow p a = none := by
  rw [findWindow, List.find?_eq_none]
  exact fun w _ hc => h w (covers_iff.mp hc)

/-! ## The length check and the refusals of steps 1 and 2 (R8, R9, R10) -/

theorem check_of_length (h : ask.lengthOk = true) : s.check p tag a ask = s.translate p tag a ask := if_pos h

theorem check_badLength (h : ask.lengthOk = false) : s.check p tag a ask = .refused .badLength none :=
  if_neg (by rw [h]; decide)

theorem lengthOk_read_iff (n : Nat) : (Ask.read n).lengthOk = true ↔ 1 ≤ n ∧ n ≤ 256 := by
  simp [Ask.lengthOk, within]

theorem lengthOk_program_iff (data : List Byte) :
    (Ask.program data).lengthOk = true ↔ 1 ≤ data.length ∧ data.length ≤ 256 := by
  simp [Ask.lengthOk, within]

theorem lengthOk_iff : ask.lengthOk = true ↔
    (∀ n, ask = .read n → 1 ≤ n ∧ n ≤ 256) ∧ ∀ data, ask = .program data → 1 ≤ data.length ∧ data.length ≤ 256 := by
  cases ask with
  | read n => simp [lengthOk_read_iff]
  | program data => simp [lengthOk_program_iff]
  | erase k => simp [Ask.lengthOk]

theorem check_noWindow (hl : ask.lengthOk = true) (h : ∀ w, ¬ s.Covers p a.toNat w) :
    s.check p tag a ask = .refused .noWindow none := by
  rw [check_of_length hl, translate, findWindow_none h]

theorem check_boundary (hs : WindowLaw s) (hl : ask.lengthOk = true) (h : s.Covers p a.toNat w)
    (hb : (s.window w).logicalBase.toNat + (s.window w).size ≤ a.toNat + ask.count - 1) :
    s.check p tag a ask = .refused .boundary (some w) := by
  rw [check_of_length hl, translate, (findWindow_iff hs).mpr h]
  exact if_pos hb

/-! ## Steps 3 to 7 -/

theorem InRange.lengthOk (h : s.InRange p a.toNat ask w) : ask.lengthOk = true := by
  have := h.length
  cases ask with
  | read n => exact (lengthOk_read_iff n).mpr this
  | program data => exact (lengthOk_program_iff data).mpr this
  | erase k => rfl

/-- The physical start is the active bank's base and the offset in the window (R14). -/
theorem physicalStart_eq (a : Nat) (w : WindowNo) :
    s.physicalStart a w = (s.window w).activeBase + (a - (s.window w).logicalBase.toNat) := by
  unfold physicalStart Window.activeBase
  cases (s.window w).activeBank <;> cases (s.window w).bank1 <;> rfl

theorem right_eq : ask.allowedBy ((s.window w).rights.get p) = s.right p w ask := by cases ask <;> rfl

/-- What is left of translation for a request that reaches step 3: the checks of steps 3 to 7 in order (R11 to R17). -/
theorem check_of_inRange (hs : WindowLaw s) (h : s.InRange p a.toNat ask w) : s.check p tag a ask =
    if ¬ s.right p w ask then .refused .denied (some w)
    else if (s.window w).swapPending then .refused .swapPending (some w)
    else if (s.tracker (s.window w).device).state = .offline then .refused .noDevice (some w)
    else if (s.tracker (s.window w).device).state = .faulted then .refused .deviceFault (some w)
    else if 2 ^ (s.profile (s.window w).device).capacityLog ≤ s.physicalStart a.toNat w + ask.count - 1 then
      .refused .outOfDevice (some w)
    else (kindCheck (s.profile (s.window w).device) (s.physicalStart a.toNat w) ask.count ask).elim
      (fun st => .refused st (some w)) fun work => .translated (s.translation p tag a.toNat ask w work) := by
  have hlast : ¬ (s.window w).logicalBase.toNat + (s.window w).size ≤ a.toNat + ask.count - 1 := by
    have := h.last
    have := h.covers.upper
    omega
  rw [check_of_length h.lengthOk, translate, (findWindow_iff hs).mpr h.covers]
  dsimp only
  rw [if_neg hlast, right_eq, ← physicalStart_eq]
  unfold translation Profile.capacity
  cases kindCheck (s.profile (s.window w).device) (s.physicalStart a.toNat w) ask.count ask <;> rfl

/-- Step 7 alone, for a request that passes steps 1 to 6. -/
theorem check_of_reaches (hs : WindowLaw s) (h : s.Reaches p a.toNat ask w) : s.check p tag a ask =
    (kindCheck (s.profile (s.window w).device) (s.physicalStart a.toNat w) ask.count ask).elim
      (fun st => .refused st (some w)) fun work => .translated (s.translation p tag a.toNat ask w work) := by
  have hcap : ¬ 2 ^ (s.profile (s.window w).device).capacityLog ≤ s.physicalStart a.toNat w + ask.count - 1 := by
    have := h.capacity
    have : 0 < 2 ^ (s.profile (s.window w).device).capacityLog := Nat.two_pow_pos _
    omega
  rw [check_of_inRange hs h.range, if_neg (not_not.mpr h.right), if_neg (by rw [h.noSwap]; decide), if_neg h.present,
    if_neg h.inService, if_neg hcap]

/-- The statuses with which step 7 refuses (R15, R16). -/
theorem kindCheck_inl {prof : Profile} {start count : Nat} {st : Status}
    (h : kindCheck prof start count ask = .inl st) : st = .pageCross ∨ st = .misaligned := by
  unfold kindCheck at h
  repeat' split at h
  all_goals cases h
  · exact .inl rfl
  · exact .inr rfl
  · exact .inr rfl

/-- A request that reaches step 3 is refused DENIED exactly when the right is missing (R11). -/
theorem check_denied_iff (hs : WindowLaw s) (h : s.InRange p a.toNat ask w) :
    s.check p tag a ask = .refused .denied (some w) ↔ s.right p w ask = false := by
  rw [check_of_inRange hs h]
  cases hr : s.right p w ask with
  | false => exact ⟨fun _ => rfl, fun _ => rfl⟩
  | true =>
    have hne : ∀ st, st ≠ .denied → Translation.refused st (some w) ≠ .refused .denied (some w) :=
      fun st hst he => hst (Translation.refused.inj he).1
    refine ⟨fun hd => absurd hd ?_, nofun⟩
    rw [if_neg (not_not.mpr rfl)]
    split
    · exact hne _ nofun
    split
    · exact hne _ nofun
    split
    · exact hne _ nofun
    split
    · exact hne _ nofun
    cases hk : kindCheck (s.profile (s.window w).device) (s.physicalStart a.toNat w) ask.count ask with
    | inr work => exact nofun
    | inl st => obtain rfl | rfl := kindCheck_inl hk <;> exact hne _ nofun

/-! ## The erase unit (R16) -/

theorem unitOfSize_none {prof : Profile} {bytes : Nat} (h : ∀ u ∈ prof.eraseUnits, 2 ^ u.sizeLog ≠ bytes) :
    prof.unitOfSize bytes = none := by
  unfold Profile.unitOfSize
  rw [List.findIdx?_eq_none_iff.mpr fun u hu => by simpa [EraseUnit.size] using h u hu]
  rfl

/-- With distinct unit sizes the unit of a size is found under its own number. -/
theorem unitOfSize_some {prof : Profile} {n : Nat} {u : EraseUnit}
    (hd : (prof.eraseUnits.map EraseUnit.sizeLog).Nodup) (hu : prof.eraseUnits[n]? = some u) :
    prof.unitOfSize (2 ^ u.sizeLog) = some (n + 1) := by
  obtain ⟨hn, rfl⟩ := List.getElem?_eq_some_iff.mp hu
  have hf : prof.eraseUnits.findIdx? (fun v => v.size == 2 ^ (prof.eraseUnits[n]).sizeLog) = some n := by
    rw [List.findIdx?_eq_some_iff_getElem]
    refine ⟨hn, by simp [EraseUnit.size], fun j hj he => ?_⟩
    have he : (prof.eraseUnits[j]).sizeLog = (prof.eraseUnits[n]).sizeLog :=
      Nat.pow_right_injective le_rfl (by simpa [EraseUnit.size] using he)
    have := (List.Nodup.getElem_inj_iff hd (i := j) (j := n) (hi := by simp; omega) (hj := by simpa using hn)).mp
      (by simpa using he)
    omega
  unfold Profile.unitOfSize
  rw [hf]
  rfl

/-- An ERASE whose size is no unit's is MISALIGNED (R16). -/
theorem kindCheck_erase_noUnit {prof : Profile} {start count k : Nat}
    (h : ∀ u ∈ prof.eraseUnits, 2 ^ u.sizeLog ≠ 1024 * k) :
    kindCheck prof start count (.erase k) = .inl .misaligned := by
  rw [kindCheck, unitOfSize_none h]

/-- An ERASE whose physical start is no multiple of its size is MISALIGNED (R16). -/
theorem kindCheck_erase_start {prof : Profile} {start count k : Nat} (h : start % (1024 * k) ≠ 0) :
    kindCheck prof start count (.erase k) = .inl .misaligned := by
  rw [kindCheck]
  split
  · exact if_neg h
  · rfl

theorem kindCheck_erase {prof : Profile} {start count k n : Nat} {u : EraseUnit}
    (hd : (prof.eraseUnits.map EraseUnit.sizeLog).Nodup) (hu : prof.eraseUnits[n]? = some u)
    (hk : 2 ^ u.sizeLog = 1024 * k) (hs : start % 2 ^ u.sizeLog = 0) :
    kindCheck prof start count (.erase k) = .inr (.erase (n + 1)) := by
  rw [kindCheck, ← hk, unitOfSize_some hd hu]
  exact if_pos hs

/-! ## Which request is translated (R15, R16, R17) -/

theorem check_read (hs : WindowLaw s) {n : Nat} (h : s.Reaches p a.toNat (.read n) w) :
    s.check p tag a (.read n) = .translated (s.translation p tag a.toNat (.read n) w .read) :=
  check_of_reaches hs h

theorem check_program (hs : WindowLaw s) {data : List Byte} (h : s.Reaches p a.toNat (.program data) w)
    (hpage : s.physicalStart a.toNat w / 2 ^ (s.profile (s.window w).device).pageLog
      = (s.physicalStart a.toNat w + data.length - 1) / 2 ^ (s.profile (s.window w).device).pageLog) :
    s.check p tag a (.program data)
      = .translated (s.translation p tag a.toNat (.program data) w (.program data)) := by
  rw [check_of_reaches hs h, kindCheck]
  rw [if_pos (by exact hpage)]
  rfl

theorem check_pageCross (hs : WindowLaw s) {data : List Byte} (h : s.Reaches p a.toNat (.program data) w)
    (hpage : s.physicalStart a.toNat w / 2 ^ (s.profile (s.window w).device).pageLog
      ≠ (s.physicalStart a.toNat w + data.length - 1) / 2 ^ (s.profile (s.window w).device).pageLog) :
    s.check p tag a (.program data) = .refused .pageCross (some w) := by
  rw [check_of_reaches hs h, kindCheck]
  rw [if_neg (by exact hpage)]
  rfl

theorem check_erase (hs : WindowLaw s) {k n : Nat} {u : EraseUnit} (h : s.Reaches p a.toNat (.erase k) w)
    (hd : ((s.profile (s.window w).device).eraseUnits.map EraseUnit.sizeLog).Nodup)
    (hu : (s.profile (s.window w).device).eraseUnits[n]? = some u) (hk : 2 ^ u.sizeLog = 1024 * k)
    (hstart : s.physicalStart a.toNat w % 2 ^ u.sizeLog = 0) :
    s.check p tag a (.erase k) = .translated (s.translation p tag a.toNat (.erase k) w (.erase (n + 1))) := by
  rw [check_of_reaches hs h, kindCheck_erase hd hu hk hstart]
  rfl

theorem check_misaligned (hs : WindowLaw s) {k : Nat} (h : s.Reaches p a.toNat (.erase k) w)
    (hk : kindCheck (s.profile (s.window w).device) (s.physicalStart a.toNat w) (Ask.erase k).count (.erase k)
      = .inl .misaligned) : s.check p tag a (.erase k) = .refused .misaligned (some w) := by
  rw [check_of_reaches hs h, hk]
  rfl

end State

/-- Settles O13, by the uniqueness of the covering window. -/
theorem lookupFindsTheOneWindow : Obligations.LookupFindsTheOneWindow := by
  intro s p tag a hs
  refine ⟨fun w => State.findWindow_iff hs, fun n hn => State.check_badLength ?_, fun data hd =>
    State.check_badLength ?_, fun ask hr hp => ?_⟩
  · rw [Bool.eq_false_iff, ne_eq, State.lengthOk_read_iff]
    omega
  · rw [Bool.eq_false_iff, ne_eq, State.lengthOk_program_iff]
    rcases hd with rfl | hd
    · simp
    · omega
  · have hl := State.lengthOk_iff.mpr ⟨hr, hp⟩
    exact ⟨State.check_noWindow hl, fun w hc hb => State.check_boundary hs hl hc hb⟩

/-- Settles O14: step 3 for each of the three kinds. -/
theorem missingRightIsDenied : Obligations.MissingRightIsDenied := by
  intro s p tag a w hs
  exact ⟨fun n h => State.check_denied_iff hs h, fun data h => State.check_denied_iff hs h,
    fun k h => State.check_denied_iff hs h⟩

/-- Settles O15: steps 4 to 6 from what is left of translation after step 3, step 7 from what is left after step 6. -/
theorem deviceAndPageChecks : Obligations.DeviceAndPageChecks := by
  constructor
  · intro s p tag a ask w hs h hr
    rw [State.check_of_inRange hs h, if_neg (not_not.mpr hr)]
    refine ⟨fun hp => if_pos hp, fun hp => ?_⟩
    rw [if_neg (by rw [hp]; decide)]
    refine ⟨fun ho => if_pos ho, fun hf => ?_, fun ho hf hc => ?_⟩
    · rw [if_neg (by rw [hf]; decide), if_pos hf]
    · rw [if_neg ho, if_neg hf, if_pos hc]
  · intro s p tag a w hs
    exact ⟨fun data h => ⟨fun hne => State.check_pageCross hs h hne, fun he => State.check_program hs h he⟩,
      fun n h => State.check_read hs h⟩

/-- Settles O16, by the search for the erase unit of the size. -/
theorem eraseUnitMatched : Obligations.EraseUnitMatched := by
  intro s p tag a k w hs h
  refine ⟨fun hk => State.check_misaligned hs h (State.kindCheck_erase_noUnit fun u _ => ?_),
    fun hu => State.check_misaligned hs h (State.kindCheck_erase_noUnit hu),
    fun hst => State.check_misaligned hs h (State.kindCheck_erase_start hst),
    fun n u hd hu hk hst => State.check_erase hs h hd hu hk hst⟩
  rw [hk]
  exact (Nat.two_pow_pos _).ne'

end Sys2Proof.Machine
end

section
/-! SUPPORT. An accepted request: its meaning on the state that holds its reservation, and what its answer leaves. -/

namespace Sys2Proof.Machine

/-! ## Attention does not outlive the close of an event (R140) -/

theorem moveOne_attention_irrel (o : Outbound) (b : Bool) :
    ({ o with attention := b } : Outbound).moveOne = { o.moveOne with attention := b } := by
  unfold Outbound.moveOne
  have hs : ({ o with attention := b } : Outbound).sum = o.sum := rfl
  rw [hs]
  split
  · cases o.notices.takeFirst <;> rfl
  · rfl

theorem moveNotices_attention_irrel (o : Outbound) (b : Bool) :
    ({ o with attention := b } : Outbound).moveNotices = { o.moveNotices with attention := b } := by
  simp only [Outbound.moveNotices, Function.iterate_succ, Function.iterate_zero, Function.comp, id,
    moveOne_attention_irrel]

theorem driveAttention_attention_irrel (o : Outbound) (b : Bool) (st : PartState) :
    ({ o with attention := b } : Outbound).driveAttention st = o.driveAttention st := rfl

namespace State

variable {s t : State}

theorem trackers_ext (h : ∀ d, t.tracker d = s.tracker d) : t.trackers = s.trackers :=
  Vector.ext fun i hi => h ⟨i, hi⟩

theorem outbound_ext (h : ∀ p, t.out p = s.out p) : t.outbound = s.outbound := by
  have ha := h .A
  have hb := h .B
  simp only [out, PerPort.get] at ha hb
  exact congrArg₂ PerPort.mk ha hb

/-- The close of an event changes trackers and outbound units only. -/
theorem close_frame (s : State) :
    s.close = { s with trackers := s.close.trackers, outbound := s.close.outbound } := by
  unfold close driveAttention moveNotices setOut reconsider
  rfl

/-- The attention lines are no part of what closes an event. -/
theorem close_of_attention {o : PerPort Outbound} (ho : ∀ p, ∃ b, o.get p = { s.out p with attention := b }) :
    ({ s with outbound := o } : State).close = s.close := by
  have htrackers : ({ s with outbound := o } : State).close.trackers = s.close.trackers := trackers_ext fun d => by
    rw [close_tracker, close_tracker]
    rfl
  have houtbound : ({ s with outbound := o } : State).close.outbound = s.close.outbound := outbound_ext fun p => by
    obtain ⟨b, hb⟩ := ho p
    rw [close_out, close_out, show ({ s with outbound := o } : State).out p = _ from hb, moveNotices_attention_irrel,
      driveAttention_attention_irrel]
  rw [close_frame { s with outbound := o }, htrackers, houtbound, close_frame s]

/-- A receipt is no part of what closes an event. -/
theorem close_writeReceipt (p : Port) (tag : Byte) (c : ReceiptCode) :
    s.close.writeReceipt p tag c = (s.writeReceipt p tag c).close := by
  have htrackers : (s.writeReceipt p tag c).close.trackers = s.close.trackers := trackers_ext fun d => by
    rw [close_tracker, close_tracker]
    rfl
  have houtbound : (s.writeReceipt p tag c).close.outbound = s.close.outbound := outbound_ext fun q => by
    rw [close_out, close_out]
    rfl
  rw [close_frame (s.writeReceipt p tag c), htrackers, houtbound, close_frame s]
  rfl

/-! ## Accepted requests -/

theorem Accepts.verdict_control {p : Port} {tag : Byte} (h : s.Accepts p tag) :
    s.intakeVerdict p tag .control = .accepted :=
  (s.accepted_iff p tag .control).mpr ⟨h.operating, nofun, nofun, h.free, nofun, h.room.ne⟩

theorem Accepts.verdict_memory {p : Port} {tag : Byte} (h : s.Accepts p tag) (hq : (s.queue p).length < 4) :
    s.intakeVerdict p tag .memory = .accepted :=
  (s.accepted_iff p tag .memory).mpr ⟨h.operating, nofun, nofun, h.free, fun ⟨_, e⟩ => hq.ne e, h.room.ne⟩

/-- An accepted request acts on the state that holds its reservation (R122). -/
theorem powered_intake {p : Port} {tag : Byte} {g : Group} {f : State → State} (hp : s.power = .on)
    (hv : s.intakeVerdict p tag g = .accepted) :
    s.powered (s.intake p tag g f) = .next ((f (s.accept p)).writeReceipt p tag .accepted) := by
  rw [s.powered_on _ (by rw [hp]; decide)]
  obtain ⟨hn, _⟩ | ⟨_, e⟩ := s.intake_cases p tag g f
  · exact absurd hv hn
  · rw [e]

/-- A response takes the place of the reservation just taken: the reservations stay (R122, R132). -/
theorem accept_respond (p : Port) (m : Message) :
    (s.accept p).respond p m = s.setOut p { s.out p with queue := (s.out p).queue ++ [m] } := by
  cases p <;> rfl

/-- The response of a control request: its port's attention line is asserted, the other one stays (R124, R140). -/
theorem reply_accepted (h : AttentionLaw s) (hpart : s.part = .operating) (p : Port) (k : RequestKind) (tag : Byte)
    (st : Status) (data : ResponseData) : ((s.accept p).reply p k tag st data).writeReceipt p tag .accepted
      = s.answered p tag (.response k tag st data) := by
  have hlaw := congrArg State.outbound (s.driveAttention_of_law h)
  have hasserted : ∀ o : Outbound, ({ o with queue := o.queue ++ [.response k tag st data] } : Outbound).driveAttention
      s.part = { o with queue := o.queue ++ [.response k tag st data], attention := true } := fun o => by
    simp [Outbound.driveAttention, hpart]
  have hout : ((s.accept p).reply p k tag st data).outbound = s.outbound.set p
      { s.out p with queue := (s.out p).queue ++ [.response k tag st data], attention := true } := by
    unfold reply
    rw [accept_respond, ← hasserted]
    cases p with
    | A => exact congrArg (PerPort.mk _) (congrArg PerPort.b hlaw)
    | B => exact congrArg (PerPort.mk · _) (congrArg PerPort.a hlaw)
  unfold answered
  rw [← hout]
  rfl

/-- A control request that its meaning only answers. -/
theorem exec_answered {p : Port} {tag : Byte} {f : State → State} {u : State} {k : RequestKind} {st : Status}
    {data : ResponseData} (h : AttentionLaw s) (ha : s.Accepts p tag)
    (hu : u = { s with
      windows := u.windows
      profiles := u.profiles
      trackers := u.trackers })
    (hf : f (s.accept p) = (u.accept p).reply p k tag st data) :
    s.powered (s.intake p tag .control f) = .next (u.answered p tag (.response k tag st data)) := by
  have hout : u.outbound = s.outbound := by rw [hu]
  have hpart : u.part = s.part := by rw [hu]
  have hlaw : AttentionLaw u := fun q => by
    have := h q
    simp only [out] at this ⊢
    rw [hout, hpart]
    exact this
  rw [powered_intake ha.on ha.verdict_control, hf, reply_accepted hlaw (hpart.trans ha.operating)]

end State
end Sys2Proof.Machine
end

section
/-! SUPPORT. Memory requests from intake to the port queue or the answer, and the answer to a translated request. -/

namespace Sys2Proof.Machine

/-- The refusals that the denial count counts (R19, R166). -/
theorem countsAsDenial_iff {st : Status} :
    countsAsDenial st = true ↔ st = .noWindow ∨ st = .boundary ∨ st = .denied := by
  cases st <;> simp [countsAsDenial]

namespace State

variable {s : State} {p : Port} {tag : Byte} {a : Word} {ask : Ask}

/-- The memory requests are the commands that hand an ask to intake. -/
theorem exec_memory {i : Instr} (h : memoryAsk i = some (p, tag, a, ask)) :
    exec i s = s.powered (s.intake p tag .memory fun s => s.memoryRequest p tag a ask) := by
  cases i <;> simp only [memoryAsk, Option.some.injEq, Prod.mk.injEq, reduceCtorEq] at h
  all_goals
    obtain ⟨rfl, rfl, rfl, rfl⟩ := h
    rfl

/-- A reservation is no part of what translation looks at. -/
theorem check_accept (q : Port) : (s.accept q).check p tag a ask = s.check p tag a ask := rfl

/-- A translated request joins its queue, and the event closes (R17, R122, R123). -/
theorem exec_translated {i : Instr} {r : Request} (hi : memoryAsk i = some (p, tag, a, ask)) (ha : s.Accepts p tag)
    (hq : (s.queue p).length < 4) (hc : s.check p tag a ask = .translated r) :
    exec i s = .next ((s.reserved p tag).placed r).close := by
  rw [exec_memory hi, powered_intake ha.on (ha.verdict_memory hq), memoryRequest, check_accept, hc]
  dsimp only
  rw [close_writeReceipt]
  rfl

/-! ## Refused memory requests (R18, R19) -/

theorem bumpHalf_eq (c : Half) : bumpHalf c = if c.toNat = 65535 then c else c + 1 := by
  unfold bumpHalf
  have : c = 0xFFFF#16 ↔ c.toNat = 65535 := by rw [BitVec.toNat_eq]; rfl
  simp only [this]

/-- The state in which a refused request's response is queued, before the attention lines follow. -/
def responded (s : State) (p : Port) (tag : Byte) (m : Message) : State :=
  (s.setOut p { s.out p with queue := (s.out p).queue ++ [m] }).writeReceipt p tag .accepted

theorem responded_close (m : Message) : (s.answered p tag m).close = (s.responded p tag m).close :=
  close_of_attention (s := s.responded p tag m) fun q => by cases p <;> cases q <;> exact ⟨_, rfl⟩

theorem responded_denials_close (m : Message) (d : PerPort Half) :
    ({ s.answered p tag m with denials := d } : State).close
      = ({ s.responded p tag m with denials := d } : State).close :=
  close_of_attention (s := { s.responded p tag m with denials := d }) fun q => by
    cases p <;> cases q <;> exact ⟨_, rfl⟩

theorem responded_raise_close (m : Message) (d : PerPort Half) (q : Port) (n : Notice) :
    (({ s.answered p tag m with denials := d } : State).raise q n).close
      = (({ s.responded p tag m with denials := d } : State).raise q n).close :=
  close_of_attention (s := ({ s.responded p tag m with denials := d } : State).raise q n) fun x => by
    cases p <;> cases q <;> cases x <;> exact ⟨_, rfl⟩

theorem raiseDenialNotice_writeReceipt (st : Status) (w : Option WindowNo) (c : ReceiptCode) :
    (s.raiseDenialNotice st w).writeReceipt p tag c = (s.writeReceipt p tag c).raiseDenialNotice st w := by
  have hr : (s.writeReceipt p tag c).reports w = s.reports w := by cases w <;> rfl
  unfold raiseDenialNotice
  rw [hr]
  split <;> rfl

/-- A refused memory request is answered, counted where it is a denial, and reported before its event closes (R18,
R19). -/
theorem exec_refused {i : Instr} {st : Status} {w : Option WindowNo} (hi : memoryAsk i = some (p, tag, a, ask))
    (ha : s.Accepts p tag) (hq : (s.queue p).length < 4) (hc : s.check p tag a ask = .refused st w) :
    exec i s = .next (if countsAsDenial st then
        (({ s.responded p tag (plainResponse ask.kind tag st) with
          denials := s.denials.set p (bumpHalf (s.denials.get p)) } : State).raiseDenialNotice st w).close
      else (s.responded p tag (plainResponse ask.kind tag st)).close) := by
  rw [exec_memory hi, powered_intake ha.on (ha.verdict_memory hq), memoryRequest, check_accept, hc]
  dsimp only
  rw [close_writeReceipt, refuse, accept_respond]
  dsimp only
  split
  · rw [raiseDenialNotice_writeReceipt]
    rfl
  · rfl

end State

/-- Settles O17: the check's translations for the three kinds, handed to the port queue. -/
theorem memoryRequestsAreQueued : Obligations.MemoryRequestsAreQueued := by
  intro s p tag a w hs ha hq
  exact ⟨fun n h => State.exec_translated rfl ha hq (State.check_read hs h),
    fun data h hpage => State.exec_translated rfl ha hq (State.check_program hs h hpage),
    fun k n u h hd hu hk hst => State.exec_translated rfl ha hq (State.check_erase hs h hd hu hk hst)⟩

/-- Settles O18: the response, the count and the notice of a refusal, the attention lines following at the close. -/
theorem refusedMemoryRequestIsAnswered : Obligations.RefusedMemoryRequestIsAnswered := by
  intro i p tag a ask st w s hi ha hq hc
  dsimp only
  have he := State.exec_refused hi ha hq hc
  rw [State.bumpHalf_eq] at he
  refine ⟨fun h₁ h₂ h₃ => ?_, fun h => ?_, fun h => ⟨fun hw => ?_, fun hw => ?_⟩⟩
  · have hd : countsAsDenial st = false := by
      rw [Bool.eq_false_iff, ne_eq, countsAsDenial_iff]
      exact fun h => h.elim h₁ fun h => h.elim h₂ h₃
    rw [he, hd, State.responded_close]
    rfl
  · subst h
    rw [he, State.responded_denials_close]
    rfl
  · obtain ⟨v, rfl, hv⟩ := hw
    have hd : countsAsDenial st = true := countsAsDenial_iff.mpr (.inr h)
    rw [he, hd, if_pos rfl, State.raiseDenialNotice, if_pos ⟨h, hv⟩, State.responded_raise_close]
    rfl
  · have hd : countsAsDenial st = true := countsAsDenial_iff.mpr (.inr h)
    have hr : ∀ u : State, u.windows = s.windows → ¬ u.reports w = true := fun u hu => by
      cases w with
      | none => exact nofun
      | some v =>
        rw [State.reports, State.window, hu]
        exact Bool.eq_false_iff.mp (hw v rfl)
    rw [he, hd, if_pos rfl, State.raiseDenialNotice, if_neg fun hx => hr _ (by rfl) hx.2, State.responded_denials_close]
    rfl

/-- Settles O38, by the two things that lowering a use count can do. -/
theorem answerLowersCountsAndSwaps : Obligations.AnswerLowersCountsAndSwaps := by
  intro s p m w d
  have hw : ((s.respond p m).lowerRef d).window w = s.window w := rfl
  constructor
  · intro hu hp
    obtain ⟨_, _, h⟩ | ⟨hn, _⟩ := ((s.respond p m).lowerRef d).lowerUse_cases w
    · rw [State.answer, h]
      rfl
    · exact absurd ⟨hu, hp⟩ hn
  · intro hn
    obtain ⟨hu, hp, _⟩ | ⟨_, h⟩ := ((s.respond p m).lowerRef d).lowerUse_cases w
    · rw [hw] at hu hp
      simp [hu, hp] at hn
    · rw [State.answer, h]
      rfl

end Sys2Proof.Machine
end

section
/-! SUPPORT. Valid profile records, and the records that WINDOW_READ and PROFILE_READ give back. -/

namespace Sys2Proof.Machine

/-! ## Valid profile records (R33, R192) -/

theorem within_iff (lo n hi : Nat) : within lo n hi = true ↔ lo ≤ n ∧ n ≤ hi := by
  simp [within]

theorem byte_eq_iff {b c : Byte} : b = c ↔ b.toNat = c.toNat := BitVec.toNat_eq

theorem unitRecord_valid_iff (u : UnitRecord) (capacity : Nat) : u.valid capacity = true ↔
    12 ≤ u.size.toNat ∧ u.size.toNat ≤ 18 ∧ u.size.toNat ≤ capacity ∧ u.limit ≠ 0 := by
  have hlimit : u.limit ≠ 0 ↔ 1 ≤ u.limit.toNat := by
    rw [Nat.one_le_iff_ne_zero, ne_eq, ne_eq, BitVec.toNat_eq]
    rfl
  have := u.limit.isLt
  simp only [UnitRecord.valid, Bool.and_eq_true, within_iff, decide_eq_true_eq, hlimit]
  omega

theorem positionValid_iff (b : Byte) : positionValid b = true ↔ b.toNat ≤ 7 ∨ b = 0xFF := by
  simp [positionValid]

theorem bitPosition_absent {b : Byte} (h : b = 0xFF) : bitPosition b = none := if_pos h

theorem bitPosition_present {b : Byte} (h : b ≠ 0xFF) : bitPosition b = some b.toNat := if_neg h

theorem bitPosition_isSome (b : Byte) : (bitPosition b).isSome = true ↔ b ≠ 0xFF := by
  by_cases h : b = 0xFF
  · rw [bitPosition_absent h]
    exact ⟨nofun, fun hn => absurd h hn⟩
  · rw [bitPosition_present h]
    exact ⟨fun _ => h, fun _ => rfl⟩

/-- The positions that a profile gives are distinct (R33): a byte FFh gives none. -/
theorem positions_nodup_iff {busy error suspended : Byte} (hb : busy.toNat ≤ 7) :
    ((some busy.toNat :: [bitPosition error, bitPosition suspended]).reduceOption).Nodup ↔
      busy ≠ error ∧ busy ≠ suspended ∧ (error = suspended → error = 0xFF) := by
  have hne : ∀ b : Byte, b = 0xFF → busy ≠ b := fun b h hn => by
    rw [hn, h] at hb
    exact absurd hb (by decide)
  have hinj : ∀ x y : Byte, x.toNat = y.toNat ↔ x = y := fun x y => BitVec.toNat_eq.symm
  by_cases he : error = 0xFF <;> by_cases hs : suspended = 0xFF
  · rw [bitPosition_absent he, bitPosition_absent hs]
    exact iff_of_true (by simp [List.reduceOption]) ⟨hne _ he, hne _ hs, fun _ => he⟩
  · rw [bitPosition_absent he, bitPosition_present hs]
    have hlist : ([some busy.toNat, none, some suspended.toNat].reduceOption).Nodup ↔ busy ≠ suspended := by
      simp [List.reduceOption, hinj]
    exact hlist.trans ⟨fun h => ⟨hne _ he, h, fun _ => he⟩, fun h => h.2.1⟩
  · rw [bitPosition_present he, bitPosition_absent hs]
    have hlist : ([some busy.toNat, some error.toNat, none].reduceOption).Nodup ↔ busy ≠ error := by
      simp [List.reduceOption, hinj]
    exact hlist.trans ⟨fun h => ⟨h, hne _ hs, fun e => e.trans hs⟩, fun h => h.1⟩
  · rw [bitPosition_present he, bitPosition_present hs]
    have hlist : ([some busy.toNat, some error.toNat, some suspended.toNat].reduceOption).Nodup ↔
        (busy ≠ error ∧ busy ≠ suspended) ∧ error ≠ suspended := by
      simp [List.reduceOption, hinj]
    exact hlist.trans ⟨fun h => ⟨h.1.1, h.1.2, fun e => absurd e h.2⟩,
      fun h => ⟨⟨h.1, h.2.1⟩, fun e => he (h.2.2 e)⟩⟩

theorem highBits_clear_iff (b : Byte) : b.extractLsb' 4 4 = 0 ↔ ∀ i, 4 ≤ i → i < 8 → b.getLsbD i = false := by
  constructor
  · intro h i hi hi'
    have := congrArg (BitVec.getLsbD · (i - 4)) h
    simp only [BitVec.getLsbD_extractLsb'] at this
    rw [show 4 + (i - 4) = i by omega] at this
    simpa [show i - 4 < 4 by omega] using this
  · intro h
    refine BitVec.eq_of_getLsbD_eq fun i hi => ?_
    rw [BitVec.getLsbD_extractLsb', h (4 + i) (by omega) (by omega)]
    simp

theorem profileRecord_valid_iff (r : ProfileRecord) : r.valid = true ↔ r.present = 0 ∨ r.present = 1
    ∧ 16 ≤ r.capacity.toNat ∧ r.capacity.toNat ≤ 32
    ∧ (r.addressBytes = 4 ∨ r.addressBytes = 3 ∧ r.capacity.toNat ≤ 24)
    ∧ 4 ≤ r.pageSize.toNat ∧ r.pageSize.toNat ≤ 8 ∧ r.readDummy.toNat ≤ 4
    ∧ 1 ≤ r.unitCount.toNat ∧ r.unitCount.toNat ≤ 3
    ∧ (∀ u ∈ r.units, 12 ≤ u.size.toNat ∧ u.size.toNat ≤ 18 ∧ u.size.toNat ≤ r.capacity.toNat ∧ u.limit ≠ 0)
    ∧ (r.units.map UnitRecord.size).Nodup
    ∧ 100 ≤ r.programLimit.toNat
    ∧ r.busyBit.toNat ≤ 7 ∧ (r.errorBit.toNat ≤ 7 ∨ r.errorBit = 0xFF)
    ∧ (r.suspendedBit.toNat ≤ 7 ∨ r.suspendedBit = 0xFF)
    ∧ r.busyBit ≠ r.errorBit ∧ r.busyBit ≠ r.suspendedBit ∧ (r.errorBit = r.suspendedBit → r.errorBit = 0xFF)
    ∧ (∀ i, 4 ≤ i → i < 8 → r.suspendFlags.getLsbD i = false)
    ∧ (r.suspendFlags.getLsbD 1 = true ∨ r.suspendFlags.getLsbD 2 = true →
        r.suspendFlags.getLsbD 0 = true ∧ r.suspendedBit ≠ 0xFF)
    ∧ (r.suspendFlags.getLsbD 3 = true → r.suspendFlags.getLsbD 2 = true)
    ∧ 1 ≤ r.suspendLimit.toNat ∧ r.suspendLimit.toNat ≤ 15
    ∧ 1 ≤ r.settleLimit.toNat ∧ r.settleLimit.toNat ≤ 4095
    ∧ 8 ≤ r.pollInterval.toNat ∧ r.pollInterval.toNat ≤ 4095
    ∧ (r.resetCount = 1 ∨ r.resetCount = 2)
    ∧ 1 ≤ r.resetSettle.toNat ∧ r.resetSettle.toNat ≤ 4095 := by
  have haddr : (3 ≤ r.addressBytes.toNat ∧ r.addressBytes.toNat ≤ 4)
      ∧ (r.capacity.toNat ≤ 24 ∨ r.addressBytes.toNat = 4)
      ↔ r.addressBytes = 4 ∨ r.addressBytes = 3 ∧ r.capacity.toNat ≤ 24 := by
    rw [byte_eq_iff, byte_eq_iff]
    show _ ↔ r.addressBytes.toNat = 4 ∨ r.addressBytes.toNat = 3 ∧ _
    omega
  have hreset : (1 ≤ r.resetCount.toNat ∧ r.resetCount.toNat ≤ 2) ↔ r.resetCount = 1 ∨ r.resetCount = 2 := by
    rw [byte_eq_iff, byte_eq_iff]
    show _ ↔ r.resetCount.toNat = 1 ∨ r.resetCount.toNat = 2
    omega
  have hprogram : (100 ≤ r.programLimit.toNat ∧ r.programLimit.toNat ≤ 65535) ↔ 100 ≤ r.programLimit.toNat := by
    have := r.programLimit.isLt
    omega
  have himp : ∀ (b : Bool) (q : Prop), ((!b) = true ∨ q) ↔ (b = true → q) := by
    rintro (_ | _) q <;> simp
  simp only [ProfileRecord.valid, ProfileRecord.hasSuspend, Bool.or_eq_true, Bool.and_eq_true, beq_iff_eq,
    decide_eq_true_eq, within_iff, List.all_eq_true, unitRecord_valid_iff, positionValid_iff, bitPosition_isSome,
    highBits_clear_iff, himp, hreset, hprogram]
  constructor
  · rintro (h | ⟨⟨⟨⟨⟨⟨⟨⟨⟨⟨⟨⟨⟨⟨⟨⟨⟨⟨⟨⟨⟨hp, hc⟩, ha⟩, ha'⟩, hpage⟩, hd⟩, hu⟩, hus⟩, hnd⟩, hpl⟩, hb⟩, he⟩, hs⟩, hbits⟩,
      hhi⟩, hsp⟩, hpe⟩, hsl⟩, hse⟩, hpo⟩, hrc⟩, hrs⟩)
    · exact .inl h
    · obtain ⟨h₁, h₂, h₃⟩ := (positions_nodup_iff hb).mp hbits
      exact .inr ⟨hp, hc.1, hc.2, haddr.mp ⟨ha, ha'⟩, hpage.1, hpage.2, hd, hu.1, hu.2, hus, hnd, hpl, hb, he, hs, h₁,
        h₂, h₃, hhi, hsp, hpe, hsl.1, hsl.2, hse.1, hse.2, hpo.1, hpo.2, hrc, hrs⟩
  · rintro (h | ⟨hp, hc, hc', ha, hpage, hpage', hd, hu, hu', hus, hnd, hpl, hb, he, hs, h₁, h₂, h₃, hhi, hsp, hpe, hsl,
      hsl', hse, hse', hpo, hpo', hrc, hrs⟩)
    · exact .inl h
    · exact .inr ⟨⟨⟨⟨⟨⟨⟨⟨⟨⟨⟨⟨⟨⟨⟨⟨⟨⟨⟨⟨⟨hp, hc, hc'⟩, (haddr.mpr ha).1⟩, (haddr.mpr ha).2⟩, hpage, hpage'⟩, hd⟩, hu, hu'⟩,
        hus⟩, hnd⟩, hpl⟩, hb⟩, he⟩, hs⟩, (positions_nodup_iff hb).mpr ⟨h₁, h₂, h₃⟩⟩, hhi⟩, hsp⟩, hpe⟩, hsl, hsl'⟩,
        hse, hse'⟩, hpo, hpo'⟩, hrc⟩, hrs⟩

/-! ## Bytes made of bits -/

theorem testBit_bits (bits : List Bool) (i : Nat) :
    (bits.foldr (fun (b : Bool) (n : Nat) => (if b then 1 else 0) + 2 * n) 0).testBit i = bits.getD i false := by
  induction bits generalizing i with
  | nil => simp
  | cons b bits ih =>
    have hbit : ∀ n, (if b then 1 else 0) + 2 * n = Nat.bit b n := fun n => by
      cases b
      · simp [Nat.bit]
      · simp [Nat.bit]
        omega
    rw [List.foldr_cons, hbit]
    cases i with
    | zero => simp
    | succ i => rw [Nat.testBit_bit_succ, ih, List.getD_cons_succ]

/-- Bit i of a byte made of bits is bit i of the list. -/
theorem getLsbD_byteOfBits (bits : List Bool) {i : Nat} (hi : i < 8) :
    (byteOfBits bits).getLsbD i = bits.getD i false := by
  rw [byteOfBits, BitVec.getLsbD_ofNat, testBit_bits, decide_eq_true hi, Bool.true_and]

theorem byteOfBits_three (b : Byte) : byteOfBits [b.getLsbD 0, b.getLsbD 1, b.getLsbD 2] = b &&& 0x07 := by
  refine BitVec.eq_of_getLsbD_eq fun i hi => ?_
  rw [getLsbD_byteOfBits _ hi]
  interval_cases i <;> simp

theorem byteOfBits_four (b : Byte) :
    byteOfBits [b.getLsbD 0, b.getLsbD 1, b.getLsbD 2, b.getLsbD 3] = b &&& 0x0F := by
  refine BitVec.eq_of_getLsbD_eq fun i hi => ?_
  rw [getLsbD_byteOfBits _ hi]
  interval_cases i <;> simp

/-! ## Window records read back (R188, R192) -/

theorem rights_byte (b : Byte) : (rightsOf b).byte = b &&& 0x07 := byteOfBits_three b

theorem owners_byte {b : Byte} (h : b = 1 ∨ b = 2 ∨ b = 3) :
    byteOfBits [(ownersOf b).a, (ownersOf b).b] = b := by
  rcases h with h | h | h <;> rw [h] <;> rfl

/-- A bank bit and a missing swap pending give the flags byte of an entry just written. -/
theorem flags_byte (b : Byte) (bank : Option Word) (hbank : bank.isSome = b.getLsbD 0) :
    byteOfBits [bank.isSome, (if b.getLsbD 1 = true then Bank.bank1 else .bank0) == .bank1, b.getLsbD 2, b.getLsbD 3,
      false] = b &&& 0x0F := by
  have hactive : ((if b.getLsbD 1 = true then Bank.bank1 else .bank0) == .bank1) = b.getLsbD 1 := by
    cases b.getLsbD 1 <;> rfl
  have hlast : byteOfBits [b.getLsbD 0, b.getLsbD 1, b.getLsbD 2, b.getLsbD 3, false]
      = byteOfBits [b.getLsbD 0, b.getLsbD 1, b.getLsbD 2, b.getLsbD 3] := by
    simp [byteOfBits]
  rw [hbank, hactive, hlast, byteOfBits_four]

theorem toRecord_toWindow {r : WindowRecord} (hv : r.valid = true) (ha : r.state = 1) :
    r.toWindow.toRecord = { r with
      flags := r.flags &&& 0x0F
      rightsA := r.rightsA &&& 0x07
      rightsB := r.rightsB &&& 0x07
      useCount := 0
      bank1 := if r.flags.getLsbD 0 then r.bank1 else 0 } := by
  obtain h | ⟨_, howners, hdevice, _⟩ := (windowRecord_valid_iff r).mp hv
  · rw [ha] at h
    exact absurd h (by decide)
  have hdev : BitVec.ofNat 8 (Fin.ofNat 4 r.device.toNat).val = r.device := by
    rw [Fin.val_ofNat, Nat.mod_eq_of_lt (by omega), BitVec.ofNat_toNat, BitVec.setWidth_eq]
  have hsize : BitVec.ofNat 32 (r.sizeBytes / Config.windowUnit) = r.size := by
    rw [WindowRecord.sizeBytes, Nat.mul_div_cancel_left _ (by decide), BitVec.ofNat_toNat, BitVec.setWidth_eq]
  have hbank : (if r.hasBank1 = true then some r.bank1 else none).isSome = r.flags.getLsbD 0 := by
    unfold WindowRecord.hasBank1
    cases r.flags.getLsbD 0 <;> rfl
  have hbank1 : (if r.hasBank1 = true then some r.bank1 else none).getD 0
      = if r.flags.getLsbD 0 = true then r.bank1 else 0 := by
    unfold WindowRecord.hasBank1
    cases r.flags.getLsbD 0 <;> rfl
  rw [toWindow_of_active ha, Window.toRecord, WindowRecord.mk.injEq]
  exact ⟨ha.symm, owners_byte howners, hdev, flags_byte r.flags _ hbank, rights_byte _, rights_byte _, rfl, rfl, hsize,
    rfl, hbank1⟩

/-! ## Profile records read back (R188, R192) -/

theorem ofNat_byte (b : Byte) : BitVec.ofNat 8 b.toNat = b := by rw [BitVec.ofNat_toNat, BitVec.setWidth_eq]

theorem ofNat_half (b : Half) : BitVec.ofNat 16 b.toNat = b := by rw [BitVec.ofNat_toNat, BitVec.setWidth_eq]

theorem positionByte_bitPosition (b : Byte) : positionByte (bitPosition b) = b := by
  by_cases h : b = 0xFF
  · rw [bitPosition_absent h, h]
    rfl
  · rw [bitPosition_present h]
    exact ofNat_byte b

/-- Its limit is written in ms, held in µs and read in ms (R29). -/
theorem unitRecordOf_toUnit (u : UnitRecord) : unitRecordOf (some u.toUnit) = u := by
  have hlimit : BitVec.ofNat 16 (1000 * u.limit.toNat / 1000) = u.limit := by
    rw [Nat.mul_div_cancel_left _ (by decide), ofNat_half]
  exact (UnitRecord.mk.injEq ..).mpr ⟨ofNat_byte _, rfl, hlimit⟩

/-- The units of an entry read back, those beyond the count as 0. -/
theorem units_read_back {r : ProfileRecord} (h₁ : 1 ≤ r.unitCount.toNat) (h₃ : r.unitCount.toNat ≤ 3) :
    let none : UnitRecord := { size := 0, command := 0, limit := 0 }
    BitVec.ofNat 8 (r.units.map UnitRecord.toUnit).length = r.unitCount
    ∧ unitRecordOf (r.units.map UnitRecord.toUnit)[0]? = r.unit1
    ∧ unitRecordOf (r.units.map UnitRecord.toUnit)[1]? = (if r.unitCount.toNat < 2 then none else r.unit2)
    ∧ unitRecordOf (r.units.map UnitRecord.toUnit)[2]? = (if r.unitCount.toNat < 3 then none else r.unit3) := by
  have hcount := ofNat_byte r.unitCount
  unfold ProfileRecord.units
  generalize r.unitCount.toNat = n at *
  obtain rfl | rfl | rfl : n = 1 ∨ n = 2 ∨ n = 3 := by omega
  · exact ⟨hcount, unitRecordOf_toUnit _, rfl, rfl⟩
  · exact ⟨hcount, unitRecordOf_toUnit _, unitRecordOf_toUnit _, rfl⟩
  · exact ⟨hcount, unitRecordOf_toUnit _, unitRecordOf_toUnit _, unitRecordOf_toUnit _⟩

/-- The reset codes of an entry read back, a second code beyond the count as 0. -/
theorem resetCodes_read_back {r : ProfileRecord} (h : r.resetCount = 1 ∨ r.resetCount = 2) :
    BitVec.ofNat 8 ([r.resetCode1, r.resetCode2].take r.resetCount.toNat).length = r.resetCount
    ∧ ([r.resetCode1, r.resetCode2].take r.resetCount.toNat).getD 0 0 = r.resetCode1
    ∧ ([r.resetCode1, r.resetCode2].take r.resetCount.toNat).getD 1 0
      = if r.resetCount.toNat < 2 then 0 else r.resetCode2 := by
  rcases h with h | h <;> rw [h] <;> exact ⟨rfl, rfl, rfl⟩

/-- The suspension flags of an entry read back: bits 4 to 7 of a valid record are clear (R33). -/
theorem suspendFlags_read_back {b : Byte} (h : ∀ i, 4 ≤ i → i < 8 → b.getLsbD i = false) (x : Byte × Byte) :
    byteOfBits [(if b.getLsbD 0 = true then some x else none).isSome, b.getLsbD 1, b.getLsbD 2, b.getLsbD 3] = b := by
  have hsome : (if b.getLsbD 0 = true then some x else none).isSome = b.getLsbD 0 := by cases b.getLsbD 0 <;> rfl
  rw [hsome]
  refine BitVec.eq_of_getLsbD_eq fun i hi => ?_
  rw [getLsbD_byteOfBits _ hi]
  by_cases h4 : 4 ≤ i
  · rw [h i h4 hi, List.getD_eq_default _ _ h4]
  · interval_cases i <;> rfl

theorem toProfile_of_present {r : ProfileRecord} (h : r.present = 1) : r.toProfile =
    { present := true
      capacityLog := r.capacity.toNat
      addressBytes := r.addressBytes.toNat
      pageLog := r.pageSize.toNat
      readCommand := r.readCommand
      readDummy := r.readDummy.toNat
      writeEnable := r.writeEnable
      programCommand := r.programCommand
      eraseUnits := r.units.map UnitRecord.toUnit
      programLimit := r.programLimit.toNat
      statusCommand := r.statusCommand
      busyBit := r.busyBit.toNat
      errorBit := bitPosition r.errorBit
      suspendedBit := bitPosition r.suspendedBit
      suspendResume := if r.hasSuspend then some (r.suspendCommand, r.resumeCommand) else none
      suspendProgramAllowed := r.suspendFlags.getLsbD 1
      suspendEraseAllowed := r.suspendFlags.getLsbD 2
      programInEraseSuspend := r.suspendFlags.getLsbD 3
      suspendLimit := r.suspendLimit.toNat
      settleLimit := r.settleLimit.toNat
      pollInterval := r.pollInterval.toNat
      resetSequence := [r.resetCode1, r.resetCode2].take r.resetCount.toNat
      resetSettle := r.resetSettle.toNat } := by
  unfold ProfileRecord.toProfile
  rw [if_pos (by rw [h]; rfl)]

theorem toProfile_of_absent {r : ProfileRecord} (h : r.present = 0) : r.toProfile = .absent := by
  unfold ProfileRecord.toProfile
  rw [if_neg (by rw [h]; decide)]

theorem toRecord_toProfile {r : ProfileRecord} (hv : r.valid = true) (hp : r.present = 1) :
    let none : UnitRecord := { size := 0, command := 0, limit := 0 }
    r.toProfile.toRecord = { r with
      suspendCommand := if r.suspendFlags.getLsbD 0 then r.suspendCommand else 0
      resumeCommand := if r.suspendFlags.getLsbD 0 then r.resumeCommand else 0
      unit2 := if r.unitCount.toNat < 2 then none else r.unit2
      unit3 := if r.unitCount.toNat < 3 then none else r.unit3
      resetCode2 := if r.resetCount.toNat < 2 then 0 else r.resetCode2 } := by
  obtain h | ⟨_, _, _, _, _, _, _, hu₁, hu₃, _, _, _, _, _, _, _, _, _, hflags, _, _, _, _, _, _, _, _, hreset, _⟩ :=
    (profileRecord_valid_iff r).mp hv
  · rw [hp] at h
    exact absurd h (by decide)
  obtain ⟨hcount, hunit1, hunit2, hunit3⟩ := units_read_back hu₁ hu₃
  obtain ⟨hcodes, hcode1, hcode2⟩ := resetCodes_read_back hreset
  have hcommand : ∀ f : Byte × Byte → Byte, ((if r.hasSuspend = true then
      some (r.suspendCommand, r.resumeCommand) else none).map f).getD 0
      = if r.suspendFlags.getLsbD 0 = true then f (r.suspendCommand, r.resumeCommand) else 0 := fun f => by
    unfold ProfileRecord.hasSuspend
    cases r.suspendFlags.getLsbD 0 <;> rfl
  rw [toProfile_of_present hp, Profile.toRecord, ProfileRecord.mk.injEq]
  exact ⟨hp.symm, ofNat_byte _, ofNat_byte _, ofNat_byte _, rfl, ofNat_byte _, rfl, rfl, ofNat_half _, rfl,
    ofNat_byte _, positionByte_bitPosition _, positionByte_bitPosition _, suspendFlags_read_back hflags _, hcommand _, hcommand _,
    ofNat_byte _, ofNat_half _, ofNat_half _, hcount, hunit1, hunit2, hunit3, hcodes, hcode1, hcode2, ofNat_half _⟩

/-- Settles O23, field by field. -/
theorem recordsReadBack : Obligations.RecordsReadBack := by
  refine ⟨fun r hv ha => toRecord_toWindow hv ha, fun r h => ?_, fun r hv hp => toRecord_toProfile hv hp,
    fun r h => toProfile_of_absent h, rfl⟩
  rw [toWindow_of_empty h]
  rfl

end Sys2Proof.Machine
end

section
/-! SUPPORT. The checks of the control requests on windows and profiles, and what an accepted one leaves. -/

namespace Sys2Proof.Machine

/-! ## Window and device numbers (R192) -/

theorem windowNumber_eq {number : Word} {n : WindowNo} (h : number.toNat = n.val) : windowNumber number = some n := by
  unfold windowNumber
  rw [dif_pos (h ▸ n.isLt)]
  exact congrArg some (Fin.ext h)

theorem windowNumber_none {number : Word} (h : 15 < number.toNat) : windowNumber number = none :=
  dif_neg (by omega)

theorem deviceNumber_eq {number : Word} {d : Device} (h : number.toNat = d.val) : deviceNumber number = some d := by
  unfold deviceNumber
  rw [dif_pos (h ▸ d.isLt)]
  exact congrArg some (Fin.ext h)

theorem deviceNumber_none {number : Word} (h : 3 < number.toNat) : deviceNumber number = none :=
  dif_neg (by omega)

theorem busy_iff {st : TrackerState} :
    st.busy = true ↔ st ∈ [TrackerState.running, .suspending, .suspended, .recovering] := by
  cases st <;> decide

theorem not_busy_iff {st : TrackerState} : st.busy = false ↔ st ∈ [TrackerState.offline, .idle, .faulted] := by
  cases st <;> decide

namespace State

variable {s : State} {tag : Byte} {number : Word}

/-! ## The checks of the manager's requests, in their orders (R20, R24, R35) -/

theorem windowWriteCheck_frozen {r : WindowRecord} (hf : s.frozen = true) :
    s.windowWriteCheck s.manager number r = .inl .frozen := by
  rw [windowWriteCheck, if_neg (not_not.mpr rfl), if_pos hf]

theorem windowWriteCheck_unnumbered {r : WindowRecord} (hf : s.frozen = false) (hn : windowNumber number = none) :
    s.windowWriteCheck s.manager number r = .inl .badArgument := by
  rw [windowWriteCheck, if_neg (not_not.mpr rfl), if_neg (by rw [hf]; decide), hn]

theorem windowWriteCheck_numbered {r : WindowRecord} {n : WindowNo} (hf : s.frozen = false)
    (hn : windowNumber number = some n) : s.windowWriteCheck s.manager number r =
      if 0 < (s.window n).useCount ∨ (s.window n).swapPending then .inl .inUse
      else if ¬ r.valid then .inl .badArgument
      else if s.wouldOverlap n r.toWindow then .inl .overlap
      else .inr n := by
  rw [windowWriteCheck, if_neg (not_not.mpr rfl), if_neg (by rw [hf]; decide), hn]

/-- A window that is neither in use nor pending a swap passes check 4 of WINDOW_WRITE. -/
theorem not_inUse {n : WindowNo} (hu : (s.window n).useCount = 0) (hp : (s.window n).swapPending = false) :
    ¬ (0 < (s.window n).useCount ∨ (s.window n).swapPending = true) := by
  rw [hu, hp]
  simp

theorem profileWriteCheck_frozen {r : ProfileRecord} (hf : s.frozen = true) :
    s.profileWriteCheck s.manager number r = .inl .frozen := by
  rw [profileWriteCheck, if_neg (not_not.mpr rfl), if_pos hf]

theorem profileWriteCheck_unnumbered {r : ProfileRecord} (hf : s.frozen = false) (hn : deviceNumber number = none) :
    s.profileWriteCheck s.manager number r = .inl .badArgument := by
  rw [profileWriteCheck, if_neg (not_not.mpr rfl), if_neg (by rw [hf]; decide), hn]

theorem profileWriteCheck_numbered {r : ProfileRecord} {d : Device} (hf : s.frozen = false)
    (hn : deviceNumber number = some d) : s.profileWriteCheck s.manager number r =
      if (s.tracker d).state.busy ∨ 0 < (s.tracker d).refCount then .inl .deviceBusy
      else if ¬ r.valid then .inl .badArgument
      else .inr d := by
  rw [profileWriteCheck, if_neg (not_not.mpr rfl), if_neg (by rw [hf]; decide), hn]

/-- A device at rest passes check 4 of PROFILE_WRITE. -/
theorem not_deviceBusy {d : Device} (hb : (s.tracker d).state ∈ [TrackerState.offline, .idle, .faulted])
    (hr : (s.tracker d).refCount = 0) :
    ¬ ((s.tracker d).state.busy = true ∨ 0 < (s.tracker d).refCount) := by
  rw [not_busy_iff.mpr hb, hr]
  simp

theorem swapCheck_unnumbered (hn : windowNumber number = none) :
    s.swapCheck s.manager number = .inl .badArgument := by
  rw [swapCheck, if_neg (not_not.mpr rfl), hn]

theorem swapCheck_numbered {n : WindowNo} (hn : windowNumber number = some n) : s.swapCheck s.manager number =
    if ¬ (s.window n).active ∨ (s.window n).bank1.isNone then .inl .badArgument
    else if s.frozen ∧ ¬ (s.window n).swapOpen then .inl .frozen
    else if (s.window n).swapPending then .inl .swapPending
    else .inr n := by
  rw [swapCheck, if_neg (not_not.mpr rfl), hn]

/-- An ACTIVE window with a bank pair passes the first check of SWAP after its number. -/
theorem swappable {n : WindowNo} (ha : (s.window n).active = true) (hb : (s.window n).bank1 ≠ none) :
    ¬ (¬ (s.window n).active = true ∨ (s.window n).bank1.isNone = true) := by
  rw [ha, Option.isNone_iff_eq_none]
  simpa using hb

/-- SWAP passes the check of freeze (R24, R163). -/
theorem not_swapFrozen {n : WindowNo} (h : s.frozen = false ∨ (s.window n).swapOpen = true) :
    ¬ (s.frozen = true ∧ ¬ (s.window n).swapOpen = true) := by
  rcases h with h | h <;> rw [h] <;> simp

/-! ## Control requests that are answered and change nothing -/

theorem exec_replied {p : Port} {f : State → State} {k : RequestKind} {st : Status} {data : ResponseData}
    (h : AttentionLaw s) (ha : s.Accepts p tag) (hf : f (s.accept p) = (s.accept p).reply p k tag st data) :
    s.powered (s.intake p tag .control f) = .next (s.answered p tag (.response k tag st data)) :=
  exec_answered h ha rfl hf

theorem exec_windowWrite_refused {r : WindowRecord} {st : Status} (h : AttentionLaw s)
    (ha : s.Accepts s.manager tag) (hc : s.windowWriteCheck s.manager number r = .inl st) :
    exec (.windowWrite s.manager tag number r) s
      = .next (s.answered s.manager tag (.response .windowWrite tag st .absent)) := by
  refine exec_replied h ha ?_
  have hc : (s.accept s.manager).windowWriteCheck s.manager number r = .inl st := hc
  rw [windowWriteDo, hc]

theorem exec_profileWrite_refused {r : ProfileRecord} {st : Status} (h : AttentionLaw s)
    (ha : s.Accepts s.manager tag) (hc : s.profileWriteCheck s.manager number r = .inl st) :
    exec (.profileWrite s.manager tag number r) s
      = .next (s.answered s.manager tag (.response .profileWrite tag st .absent)) := by
  refine exec_replied h ha ?_
  have hc : (s.accept s.manager).profileWriteCheck s.manager number r = .inl st := hc
  rw [profileWriteDo, hc]

theorem exec_swap_refused {st : Status} (h : AttentionLaw s) (ha : s.Accepts s.manager tag)
    (hc : s.swapCheck s.manager number = .inl st) :
    exec (.swap s.manager tag number) s
      = .next (s.answered s.manager tag (.response .swap tag st .absent)) := by
  refine exec_replied h ha ?_
  have hc : (s.accept s.manager).swapCheck s.manager number = .inl st := hc
  rw [swapDo, hc]

theorem exec_handover_frozen (h : AttentionLaw s) (ha : s.Accepts s.manager tag) (hf : s.frozen = true) :
    exec (.handover s.manager tag) s
      = .next (s.answered s.manager tag (.response .handover tag .frozen .absent)) := by
  refine exec_replied h ha ?_
  rw [handoverDo, accept_manager, accept_frozen, if_neg (not_not.mpr rfl), if_pos hf]

theorem exec_freeze_blocked (h : AttentionLaw s) (ha : s.Accepts s.manager tag)
    (hw : ∃ w, (s.window w).swapPending = true ∧ (s.window w).swapOpen = false) :
    exec (.freeze s.manager tag) s
      = .next (s.answered s.manager tag (.response .freeze tag .swapPending .absent)) := by
  have hb : (s.accept s.manager).swapBlocksFreeze = true := by
    obtain ⟨w, hp, ho⟩ := hw
    rw [swapBlocksFreeze, Vector.any_eq_true]
    refine ⟨w.val, w.isLt, ?_⟩
    show ((s.window w).swapPending && !(s.window w).swapOpen) = true
    rw [hp, ho]
    rfl
  refine exec_replied h ha ?_
  rw [freezeDo, accept_manager, if_neg (not_not.mpr rfl), if_pos hb]

theorem exec_warmReset_stale (h : AttentionLaw s) (ha : s.Accepts s.manager tag) {e : Half} (he : e ≠ s.epoch) :
    exec (.warmReset s.manager tag e) s
      = .next (s.answered s.manager tag (.response .warmReset tag .staleEpoch .absent)) := by
  refine exec_replied h ha ?_
  rw [warmResetDo, accept_manager, accept_epoch, if_neg (not_not.mpr rfl), if_pos he]

end State

/-- Settles O21: which records are valid, and each check of the manager's requests. -/
theorem managerRequestsRefused : Obligations.ManagerRequestsRefused := by
  refine ⟨windowRecord_valid_iff, profileRecord_valid_iff, fun s tag h ha => ?_⟩
  refine ⟨fun hf n r => State.exec_windowWrite_refused h ha (State.windowWriteCheck_frozen hf),
    fun hf n r => State.exec_profileWrite_refused h ha (State.profileWriteCheck_frozen hf),
    fun hf => State.exec_handover_frozen h ha hf,
    fun hf n r hn => State.exec_windowWrite_refused h ha (State.windowWriteCheck_unnumbered hf (windowNumber_none hn)),
    fun hf n w r hn => ⟨fun hu => ?_, fun hu hp => ⟨fun hv => ?_, fun hv ho => ?_⟩⟩,
    fun hf n r hn =>
      State.exec_profileWrite_refused h ha (State.profileWriteCheck_unnumbered hf (deviceNumber_none hn)),
    fun hf n d r hn => ⟨fun hb => ?_, fun hb hr hv => ?_⟩,
    fun n hn => State.exec_swap_refused h ha (State.swapCheck_unnumbered (windowNumber_none hn)),
    fun n w hn => ⟨fun hb => ?_, fun hact hb => ⟨fun hf ho => ?_, fun hf hp => ?_⟩⟩,
    fun hw => State.exec_freeze_blocked h ha hw, fun e he => State.exec_warmReset_stale h ha he⟩
  · refine State.exec_windowWrite_refused h ha ?_
    rw [State.windowWriteCheck_numbered hf (windowNumber_eq hn), if_pos hu]
  · refine State.exec_windowWrite_refused h ha ?_
    rw [State.windowWriteCheck_numbered hf (windowNumber_eq hn), if_neg (State.not_inUse hu hp),
      if_pos (by rw [hv]; decide)]
  · refine State.exec_windowWrite_refused h ha ?_
    rw [State.windowWriteCheck_numbered hf (windowNumber_eq hn), if_neg (State.not_inUse hu hp),
      if_neg (not_not.mpr hv), if_pos (State.wouldOverlap_iff.mpr ho)]
  · refine State.exec_profileWrite_refused h ha ?_
    rw [State.profileWriteCheck_numbered hf (deviceNumber_eq hn), if_pos (hb.imp_left busy_iff.mpr)]
  · refine State.exec_profileWrite_refused h ha ?_
    rw [State.profileWriteCheck_numbered hf (deviceNumber_eq hn), if_neg (State.not_deviceBusy hb hr),
      if_pos (by rw [hv]; decide)]
  · refine State.exec_swap_refused h ha ?_
    rw [State.swapCheck_numbered (windowNumber_eq hn),
      if_pos (hb.imp Bool.eq_false_iff.mp Option.isNone_iff_eq_none.mpr)]
  · refine State.exec_swap_refused h ha ?_
    rw [State.swapCheck_numbered (windowNumber_eq hn), if_neg (State.swappable hact hb),
      if_pos ⟨hf, Bool.eq_false_iff.mp ho⟩]
  · refine State.exec_swap_refused h ha ?_
    rw [State.swapCheck_numbered (windowNumber_eq hn), if_neg (State.swappable hact hb),
      if_neg (State.not_swapFrozen hf), if_pos hp]

/-- Settles O19: the checks pass, and the entry that the record makes is set before the answer. -/
theorem tableWritesReplaceEntries : Obligations.TableWritesReplaceEntries := by
  constructor
  · intro s tag number n r h ha hf hn hu hp hv ho
    refine ⟨?_, toWindow_of_empty⟩
    refine State.exec_answered (u := { s with windows := s.windows.set n r.toWindow }) h ha rfl ?_
    have hc : (s.accept s.manager).windowWriteCheck s.manager number r = .inr n := by
      show s.windowWriteCheck s.manager number r = .inr n
      have hov : ¬ s.wouldOverlap n r.toWindow = true := fun hov => by
        obtain ⟨m, hm, hc⟩ := State.wouldOverlap_iff.mp hov
        exact absurd ((ho m hm).symm.trans hc) nofun
      rw [State.windowWriteCheck_numbered hf (windowNumber_eq hn), if_neg (State.not_inUse hu hp),
        if_neg (not_not.mpr hv), if_neg hov]
    rw [State.windowWriteDo, hc]
    rfl
  · intro s tag number d r h ha hf hn hb hr hv
    refine State.exec_answered (u := { s with
      profiles := s.profiles.set d r.toProfile
      trackers := s.trackers.set d { s.tracker d with
        state := if r.present = 1 then .idle else .offline
        timeouts := 0
        pollTimer := none
        suspendSettle := none
        resetSettle := none } }) h ha rfl ?_
    have hc : (s.accept s.manager).profileWriteCheck s.manager number r = .inr d := by
      show s.profileWriteCheck s.manager number r = .inr d
      rw [State.profileWriteCheck_numbered hf (deviceNumber_eq hn), if_neg (State.not_deviceBusy hb hr),
        if_neg (not_not.mpr hv)]
    have hstate : (if r.toProfile.present = true then TrackerState.idle else .offline)
        = if r.present = 1 then .idle else .offline := by
      unfold ProfileRecord.toProfile
      by_cases hpresent : r.present = 1
      · rw [if_pos (beq_iff_eq.mpr hpresent), if_pos hpresent]
        rfl
      · rw [if_neg (fun e => hpresent (beq_iff_eq.mp e)), if_neg hpresent]
        rfl
    rw [State.profileWriteDo, hc]
    dsimp only
    rw [Tracker.reprofiled, hstate]
    rfl

/-- Settles O24: past the checks of SWAP the use count decides between the flip and the pending swap. -/
theorem swapFlipsOrDefers : Obligations.SwapFlipsOrDefers := by
  intro s tag number n h ha hn hact hb hf hp
  have hc : (s.accept s.manager).swapCheck s.manager number = .inr n := by
    show s.swapCheck s.manager number = .inr n
    rw [State.swapCheck_numbered (windowNumber_eq hn), if_neg (State.swappable hact hb),
      if_neg (State.not_swapFrozen hf), if_neg (by rw [hp]; decide)]
  constructor
  · intro hu
    refine State.exec_answered (u := { s with
      windows := s.windows.set n { s.window n with activeBank := (s.window n).activeBank.flip } }) h ha rfl ?_
    rw [State.swapDo, hc]
    dsimp only
    rw [if_pos (by exact hu)]
    rfl
  · intro hu
    refine State.exec_answered (u := { s with
      windows := s.windows.set n { s.window n with swapPending := true } }) h ha rfl ?_
    rw [State.swapDo, hc]
    dsimp only
    rw [if_neg (by exact hu.ne')]
    rfl

/-- Settles O22: each outcome of the two reads. -/
theorem tableReadsReturnRecords : Obligations.TableReadsReturnRecords := by
  intro s p tag number h ha
  refine ⟨fun n hn hp => State.exec_replied h ha ?_, fun n hn hm ho => State.exec_replied h ha ?_,
    fun hn => State.exec_replied h ha ?_, fun d hn => State.exec_replied h ha ?_,
    fun hn => State.exec_replied h ha ?_⟩
  · have hpass : ¬ (p ≠ s.manager ∧ ¬ (s.window n).owners.get p = true) := fun ⟨hm, ho⟩ => hp.elim hm ho
    rw [State.windowReadDo, windowNumber_eq hn]
    exact if_neg hpass
  · rw [State.windowReadDo, windowNumber_eq hn]
    exact if_pos ⟨hm, Bool.eq_false_iff.mp ho⟩
  · rw [State.windowReadDo, windowNumber_none hn]
  · rw [State.profileReadDo, deviceNumber_eq hn]
    rfl
  · rw [State.profileReadDo, deviceNumber_none hn]

end Sys2Proof.Machine
end

section
/-! SUPPORT. The job in progress outlives every command but power, the reset pin and the job completions (R42, R47). -/

namespace Sys2Proof.Machine

/-- The commands that end a bus job: its completions, and the reset pin, which cuts it (R42, R47). -/
def endsJob : Instr → Bool
  | .resetPinAssert | .readJobComplete _ | .startJobComplete | .pollComplete _ | .suspendComplete | .resumeComplete
  | .resetJobComplete => true
  | _ => false

/-- The abort mark changes the kind of a request job and nothing else (R173, R174). -/
theorem mark_keeps (j : Job) : j.mark.selects = j.selects
    ∧ (j.mark.kind = j.kind ∨ ∃ r m, j.kind = .request r m ∧ j.mark.kind = .request r true) := by
  obtain ⟨kind, selects⟩ := j
  cases kind with
  | request r m => exact ⟨rfl, .inr ⟨r, m, rfl, rfl⟩⟩
  | tracker k d => exact ⟨rfl, .inl rfl⟩

/-- A request command is its request handed to intake (R113). -/
theorem exec_handed {c : Instr} {s : State} {p : Port} {tag : Byte} {q : FrameRequest}
    (h : handed c = some (p, tag, q)) : exec c s = s.powered (s.handRequest p tag q) := by
  unfold handed at h
  split at h <;> cases h <;> rfl

/-- The job in progress, if any, goes on, but that it may have been marked. -/
def State.JobRuns (s t : State) : Prop := t.job = s.job ∨ t.job = s.job.map Job.mark

namespace State

variable {s t u : State}

theorem JobRuns.refl (s : State) : s.JobRuns s := .inl rfl

/-- The job stays before the change. -/
theorem JobRuns.before (h : t.JobRuns u) (hj : t.job = s.job) : s.JobRuns u := by
  unfold JobRuns at h ⊢
  rwa [hj] at h

/-- The job stays after the change. -/
theorem JobRuns.after (h : s.JobRuns t) (hj : u.job = t.job) : s.JobRuns u := by
  unfold JobRuns at h ⊢
  rwa [hj]

/-! ## Requests -/

@[simp] theorem reply_job (p : Port) (k : RequestKind) (tag : Byte) (st : Status) (data : ResponseData) :
    (s.reply p k tag st data).job = s.job := rfl

@[simp] theorem answer_job (p : Port) (m : Message) (w : WindowNo) (d : Device) : (s.answer p m w d).job = s.job :=
  (unmoved_answer ..).job

theorem JobRuns.intake {p : Port} {tag : Byte} {g : Group} {f : State → State}
    (hf : ∀ s' : State, s'.JobRuns (f s')) : s.JobRuns (s.intake p tag g f) := by
  obtain ⟨_, e⟩ | ⟨_, e⟩ := s.intake_cases p tag g f
  · rw [e]
    exact .refl s
  · rw [e]
    have h : s.JobRuns (f (s.accept p)) := (hf (s.accept p)).before rfl
    exact h.after rfl

@[simp] theorem refuse_job (p : Port) (tag : Byte) (k : RequestKind) (st : Status) (w : Option WindowNo) :
    (s.refuse p tag k st w).job = s.job := by
  unfold refuse raiseDenialNotice
  dsimp only
  split
  · split <;> rfl
  · rfl

@[simp] theorem memoryRequest_job (p : Port) (tag : Byte) (a : Word) (ask : Ask) :
    (s.memoryRequest p tag a ask).job = s.job := by
  unfold memoryRequest
  split
  · exact (close_job _).trans (refuse_job ..)
  · exact close_job _

@[simp] theorem windowWriteDo_job (p : Port) (tag : Byte) (n : Word) (r : WindowRecord) :
    (s.windowWriteDo p tag n r).job = s.job := by
  unfold windowWriteDo
  split <;> rfl

@[simp] theorem windowReadDo_job (p : Port) (tag : Byte) (n : Word) : (s.windowReadDo p tag n).job = s.job := by
  unfold windowReadDo
  split
  · rfl
  · split <;> rfl

@[simp] theorem swapDo_job (p : Port) (tag : Byte) (n : Word) : (s.swapDo p tag n).job = s.job := by
  unfold swapDo
  split
  · rfl
  · dsimp only
    split <;> rfl

@[simp] theorem profileWriteDo_job (p : Port) (tag : Byte) (n : Word) (r : ProfileRecord) :
    (s.profileWriteDo p tag n r).job = s.job := by
  unfold profileWriteDo
  split <;> rfl

@[simp] theorem profileReadDo_job (p : Port) (tag : Byte) (n : Word) : (s.profileReadDo p tag n).job = s.job := by
  unfold profileReadDo
  split <;> rfl

@[simp] theorem freezeDo_job (p : Port) (tag : Byte) : (s.freezeDo p tag).job = s.job := by
  unfold freezeDo
  split
  · rfl
  · split <;> rfl

@[simp] theorem handoverDo_job (p : Port) (tag : Byte) : (s.handoverDo p tag).job = s.job := by
  unfold handoverDo
  split
  · rfl
  · split
    · rfl
    · exact close_job _

@[simp] theorem statusReadDo_job (p : Port) (tag : Byte) (c : Bool) : (s.statusReadDo p tag c).job = s.job := by
  unfold statusReadDo
  split
  · rfl
  · cases c <;> rfl

/-- A warm reset sequence leaves the job in progress to run (R178). -/
@[simp] theorem warmResetDo_job (p : Port) (tag : Byte) (e : Half) : (s.warmResetDo p tag e).job = s.job := by
  unfold warmResetDo
  split
  · rfl
  · split <;> rfl

/-- An ABORT marks the job of its target, and leaves the job where the target stands elsewhere (R172 to R175). -/
theorem JobRuns.abortTarget (p : Port) (tag : Byte) (target : Target) : s.JobRuns (s.abortTarget p tag target) := by
  cases target with
  | notFound => exact .refl s
  | waiting r => exact .inl (answer_job ..)
  | inJob r => exact .inr rfl
  | record d => exact .inl rfl

theorem JobRuns.abortDo (p : Port) (tag : Byte) (q : Port) (u : Byte) : s.JobRuns (s.abortDo p tag q u) := by
  unfold State.abortDo
  split
  · exact .inl rfl
  split
  · exact .inl rfl
  · exact (JobRuns.abortTarget q u _).after (close_job _)

theorem JobRuns.handRequest (p : Port) (tag : Byte) (r : FrameRequest) : s.JobRuns (s.handRequest p tag r) := by
  cases r with
  | null | unknown => exact .intake fun _ => .refl _
  | read | program | erase => exact .intake fun _ => .inl (memoryRequest_job ..)
  | windowWrite w r => exact .intake fun _ => .inl (windowWriteDo_job ..)
  | windowRead w => exact .intake fun _ => .inl (windowReadDo_job ..)
  | profileWrite d r => exact .intake fun _ => .inl (profileWriteDo_job ..)
  | profileRead d => exact .intake fun _ => .inl (profileReadDo_job ..)
  | swap w => exact .intake fun _ => .inl (swapDo_job ..)
  | freeze => exact .intake fun _ => .inl (freezeDo_job ..)
  | handover => exact .intake fun _ => .inl (handoverDo_job ..)
  | statusRead c => exact .intake fun _ => .inl (statusReadDo_job ..)
  | abort q t => exact .intake fun _ => .abortDo ..
  | warmReset e => exact .intake fun _ => .inl (warmResetDo_job ..)

/-! ## Frames, grants and time -/

@[simp] theorem removal_job (p : Port) (f : Frame) : (s.removal p f).job = s.job := by
  unfold removal
  split <;> rfl

theorem JobRuns.frameEnd (p : Port) (x : Fin 8) : s.JobRuns (s.frameEnd p x) := by
  unfold State.frameEnd
  split
  · exact .refl s
  · exact .inl rfl
  · unfold State.frameEndWork
    dsimp only
    have hm : ∀ l f, (((s.setLink p l).removal p f).moveNotices p).job = s.job := fun l f => removal_job p f
    refine JobRuns.after ?_ (driveAttention_job _)
    split
    · exact (JobRuns.handRequest ..).before (hm ..)
    · exact .inl (hm ..)

@[simp] theorem frameBegin_job (p : Port) : (s.frameBegin p).job = s.job := by
  unfold frameBegin
  split <;> rfl

@[simp] theorem inboundByte_job (p : Port) (b : Byte) : (s.inboundByte p b).job = s.job := by
  unfold inboundByte
  dsimp only
  split <;> rfl

/-- While a job is in progress the arbiter waits (R94). -/
theorem busGrant_of_job {j : Job} (hj : s.job = some j) : s.busGrant = s := by
  unfold busGrant
  rw [hj]

@[simp] theorem quarantine_job (d : Device) : (s.quarantine d).job = s.job := by
  have hdrain : ∀ (s : State) (p : Port), (s.drain d p).job = s.job := fun _ _ => (unmoved_answerFaults _).job
  unfold quarantine
  simp [hdrain]

/-! ## Every command -/

theorem JobRuns.next (hu : s.JobRuns u) (he : (.next u : Host.Outcome State Fault Refusal) = .next t) :
    s.JobRuns t := by
  cases he
  exact hu

theorem JobRuns.powered (hu : s.JobRuns u) (he : s.powered u = .next t) : s.JobRuns t := by
  obtain rfl | rfl := powered_next he
  · exact .refl _
  · exact hu

/-- What a command that does not end the job leaves of it. -/
theorem JobRuns.exec {c : Instr} {j : Job} (hj : s.job = some j) (hc : c.isPower = false) (hn : endsJob c = false)
    (he : exec c s = .next t) : s.JobRuns t := by
  cases c with
  | coldStart | powerOff => cases hc
  | resetPinAssert | readJobComplete | startJobComplete | pollComplete | suspendComplete | resumeComplete
  | resetJobComplete => cases hn
  | null | read | program | erase | windowWrite | windowRead | profileWrite | profileRead | swap | freeze | handover
  | statusRead | abort | warmReset => exact JobRuns.powered (.handRequest ..) ((exec_handed rfl).symm.trans he)
  | coldStartEnd | clearStep | resetSequenceEnd =>
    refine JobRuns.next ?_ he
    split <;> exact .inl rfl
  | resetPinRelease =>
    refine JobRuns.next ?_ he
    split
    · split <;> exact .inl rfl
    · exact .refl s
  | busGrant => exact JobRuns.powered (.inl (congrArg State.job (busGrant_of_job hj))) he
  | frameBegin p => exact JobRuns.powered (.inl (frameBegin_job p)) he
  | frameEnd p x => exact JobRuns.powered (.frameEnd p x) he
  | inboundByte p b => exact JobRuns.powered (.inl (inboundByte_job p b)) he
  | timeBaseTick => exact JobRuns.powered (u := s.tick) (.inl rfl) he
  | clkPeriod | pollTimerExpiry | deadlineExpiry | suspendSettleExpiry =>
    refine JobRuns.powered ?_ he
    split <;> exact .inl rfl
  | resetSettleExpiry d =>
    refine JobRuns.powered ?_ he
    split
    · split
      · exact .inl (quarantine_job d)
      · exact .inl rfl
    · exact .refl s

end State

/-- Settles O60: no other command ends the job, and what marks it keeps its select periods. -/
theorem jobRunsToItsCompletion : Obligations.JobRunsToItsCompletion := by
  intro c s t j hj he hpower hpin hread hstart hpoll hsuspend hresume hreset
  have hn : endsJob c = false := by
    cases c with
    | resetPinAssert => exact absurd rfl hpin
    | readJobComplete l => exact absurd rfl (hread l)
    | startJobComplete => exact absurd rfl hstart
    | pollComplete b => exact absurd rfl (hpoll b)
    | suspendComplete => exact absurd rfl hsuspend
    | resumeComplete => exact absurd rfl hresume
    | resetJobComplete => exact absurd rfl hreset
    | _ => rfl
  obtain h | h := State.JobRuns.exec hj hpower hn he
  · exact ⟨j, h.trans hj, rfl, .inl rfl⟩
  · exact ⟨j.mark, by rw [h, hj]; rfl, mark_keeps j⟩

end Sys2Proof.Machine
end

section
/-! SUPPORT. The bytes of an address, and the select periods of the bus jobs (R41, R43 to R46). -/

namespace Sys2Proof.Machine

@[simp] theorem addressBytes_length (n a : Nat) : (addressBytes n a).length = n := by
  induction n with
  | zero => rfl
  | succ n ih => rw [addressBytes, List.length_cons, ih]

/-- Most significant first, the bytes of an address spell its low n bytes (R41). -/
theorem addressBytes_value (n a v : Nat) :
    (addressBytes n a).foldl (fun v b => 256 * v + b.toNat) v = v * 256 ^ n + a % 256 ^ n := by
  induction n generalizing v with
  | zero => simp [addressBytes, Nat.mod_one]
  | succ n ih =>
    have hpow : 2 ^ (8 * n) = 256 ^ n := by rw [Nat.pow_mul]
    have hmod : a % 256 ^ (n + 1) = a % 256 ^ n + 256 ^ n * (a / 256 ^ n % 256) := by rw [Nat.pow_succ, Nat.mod_mul]
    rw [addressBytes, List.foldl_cons, ih, BitVec.toNat_ofNat, hpow, hmod, Nat.pow_succ 256 n]
    ring

/-- Settles O33: the value of an address by induction on its width, the sequences by the case of each job. -/
theorem commandSequences : Obligations.CommandSequences := by
  refine ⟨fun n a => ⟨addressBytes_length n a, fun ha => ?_⟩, fun prof r => ⟨fun hw => ?_, fun data hw => ?_,
    fun n u hw hu => ?_⟩, fun prof d => ⟨rfl, fun suspend resume h => ⟨?_, ?_⟩, rfl⟩⟩
  · rw [addressBytes_value, Nat.mod_eq_of_lt ha, Nat.zero_mul, Nat.zero_add]
  · rw [requestSelects, hw]
    rfl
  · rw [requestSelects, hw]
    rfl
  · have hunit : prof.unit? (n + 1) = some u := hu
    rw [requestSelects, hw]
    dsimp only
    rw [hunit]
    rfl
  · rw [trackerSelects, h]
    rfl
  · rw [trackerSelects, h]
    rfl

end Sys2Proof.Machine
end

section
/-! SUPPORT. POLL completions that leave the record on its stack, and completions within a reset sequence. -/

namespace Sys2Proof.Machine

/-! ## What a status byte does to the tracker that awaits it (the tables of R57 and R77) -/

/-- An absent bit, or a bit that is clear (R57, R77). -/
theorem statusBit_clear {b : Byte} {i : Option Nat} (h : ∀ n, i = some n → b.getLsbD n = false) :
    statusBit b i = false := by
  cases i with
  | none => rfl
  | some n => exact h n rfl

theorem OpRecord.not_ending {rec : OpRecord} (h : rec.endStatus = none) : ¬ rec.ending = true := by
  rw [ending, h]
  nofun

namespace Tracker

variable {t : Tracker} {prof : Profile} {b : Byte} {top : OpRecord} {rest : List OpRecord}

/-- RUNNING: the busy bit decides, the suspended bit is not consulted (R57). -/
theorem pollEffect_running (hs : t.stack = top :: rest) (he : top.endStatus = none) (ht : t.state = .running) :
    t.pollEffect prof b = if b.getLsbD prof.busyBit then .goesOn else .finished (finishedStatus prof b) := by
  rw [pollEffect, hs]
  dsimp only
  rw [if_neg (OpRecord.not_ending he), ht]

/-- SUSPENDING: the suspended bit is read before the busy bit (R77). -/
theorem pollEffect_suspending (hs : t.stack = top :: rest) (he : top.endStatus = none) (ht : t.state = .suspending) :
    t.pollEffect prof b = if statusBit b prof.suspendedBit then .suspended
      else if b.getLsbD prof.busyBit then .goesOn else .finished (finishedStatus prof b) := by
  rw [pollEffect, hs]
  dsimp only
  rw [if_neg (OpRecord.not_ending he), ht]

/-- A RECOVERING tracker awaits no poll result (R59). -/
theorem pollEffect_recovering (ht : t.state = .recovering) : t.pollEffect prof b = .discarded := by
  unfold pollEffect
  split
  · rfl
  · rw [ht]
    split <;> rfl

theorem holdSuspended_of_top (hs : t.stack = top :: rest) : t.holdSuspended = { t with
    state := .suspended
    stack := { top with state := .suspended, suspendCount := top.suspendCount + 1, deadlineDue := false } :: rest
    wantPoll := false
    pollTimer := none
    suspendSettle := none } := by
  rw [holdSuspended, hs]

end Tracker

namespace State

variable (s : State) {d : Device} {sel : List SelectPeriod}

@[simp] theorem set_tracker_self (d : Device) : s.trackers.set d (s.tracker d) = s.trackers :=
  Vector.set_getElem_self ..

variable {s}

/-! ## POLL completion in operation (R57, R77) -/

/-- A POLL job completes in operation: its status byte, the device's or a free one, is taken (R38). -/
theorem exec_pollComplete (hp : s.power ≠ .off) (hpart : s.part = .operating)
    (hj : s.job = some { kind := .tracker .poll d, selects := sel }) (status : Option Byte) :
    exec (.pollComplete status) s = .next
      ((((s.setJob none).countFree (if status.isNone then 1 else 0)).pollResult d
        (status.getD (Config.busLineByte s.freeCount))).close) := by
  refine (s.powered_on _ hp).trans (congrArg _ ?_)
  rw [pollComplete, hj]
  exact if_neg (by rw [hpart]; nofun)

/-- The record goes on: the poll timer is armed again (R57). -/
theorem pollResult_of_goesOn {b : Byte} (h : (s.tracker d).pollEffect (s.profile d) b = .goesOn) :
    s.pollResult d b = s.setTracker d { s.tracker d with pollTimer := some (s.profile d).pollInterval } := by
  rw [pollResult, h]

theorem pollResult_of_suspended {b : Byte} (h : (s.tracker d).pollEffect (s.profile d) b = .suspended) :
    s.pollResult d b = s.setTracker d (s.tracker d).holdSuspended := by
  rw [pollResult, h]

theorem pollResult_of_discarded {b : Byte} (h : (s.tracker d).pollEffect (s.profile d) b = .discarded) :
    s.pollResult d b = s := by
  rw [pollResult, h]

end State

/-- Settles O41: each row of the tables of R57 and R77 that leaves the record on its stack. -/
theorem pollGoesOnOrHolds : Obligations.PollGoesOnOrHolds := by
  intro s d sel b hp hpart hj
  have hexec := State.exec_pollComplete hp hpart hj
  have hbyte : exec (.pollComplete (some b)) s = .next ((s.setJob none).pollResult d b).close := hexec (some b)
  refine ⟨fun top rest hs he => ⟨fun ht hb => ?_, fun ht hc hb => ?_, fun i ht hi hb => ?_⟩, fun ht => ?_, ?_⟩
  · have heffect : (s.tracker d).pollEffect (s.profile d) b = .goesOn := by
      rw [Tracker.pollEffect_running hs he ht, if_pos hb]
    rw [hbyte, State.pollResult_of_goesOn (s := s.setJob none) heffect]
    rfl
  · have heffect : (s.tracker d).pollEffect (s.profile d) b = .goesOn := by
      rw [Tracker.pollEffect_suspending hs he ht, statusBit_clear hc, if_neg Bool.false_ne_true, if_pos hb]
    rw [hbyte, State.pollResult_of_goesOn (s := s.setJob none) heffect]
    rfl
  · have hset : statusBit b (s.profile d).suspendedBit = true := by rw [hi]; exact hb
    have heffect : (s.tracker d).pollEffect (s.profile d) b = .suspended := by
      rw [Tracker.pollEffect_suspending hs he ht, if_pos hset]
    rw [hbyte, State.pollResult_of_suspended (s := s.setJob none) heffect, State.setJob_tracker,
      Tracker.holdSuspended_of_top hs]
    rfl
  · have heffect := Tracker.pollEffect_recovering (prof := s.profile d) (b := b) ht
    rw [hbyte, State.pollResult_of_discarded (s := s.setJob none) heffect]
    exact congrArg (fun l => Host.Outcome.next (State.close { s with job := none, trackers := l }))
      (s.set_tracker_self d).symm
  · rw [hexec, State.exec_pollComplete (s := { s with freeCount := s.freeCount + 1 }) hp hpart hj]
    rfl

/-! ## Completions within a reset sequence (R47, R107, R179) -/

theorem Tracker.startDiscarded_idle {t : Tracker} (h : t.state = .idle) :
    t.startDiscarded = { t with state := .recovering, wantReset := true } := if_pos h

theorem Tracker.startDiscarded_other {t : Tracker} (h : t.state ≠ .idle) : t.startDiscarded = t := if_neg h

namespace State

variable {s : State} {r : Request} {m : Bool} {d : Device} {sel : List SelectPeriod}

theorem readJobComplete_resetting (hpart : s.part = .resetting)
    (hj : s.job = some { kind := .request r m, selects := sel }) (hw : r.work = .read) (driven : List Byte) :
    s.readJobComplete driven = (s.setJob none).countFree (r.count - driven.length) := by
  rw [readJobComplete, hj]
  dsimp only
  rw [if_pos hw, if_pos hpart]

theorem startJobComplete_resetting (hpart : s.part = .resetting)
    (hj : s.job = some { kind := .request r m, selects := sel }) (hw : r.work ≠ .read) :
    s.startJobComplete = (s.setJob none).setTracker r.device (s.tracker r.device).startDiscarded := by
  rw [startJobComplete, hj]
  dsimp only
  rw [if_neg hw, if_pos hpart]

theorem pollComplete_resetting (hpart : s.part = .resetting)
    (hj : s.job = some { kind := .tracker .poll d, selects := sel }) (status : Option Byte) :
    s.pollComplete status = (s.setJob none).countFree (if status.isNone then 1 else 0) := by
  rw [pollComplete, hj]
  exact if_pos hpart

theorem suspendComplete_resetting (hpart : s.part = .resetting)
    (hj : s.job = some { kind := .tracker .suspend d, selects := sel }) : s.suspendComplete = s.setJob none := by
  rw [suspendComplete, hj]
  exact if_pos hpart

theorem resumeComplete_resetting (hpart : s.part = .resetting)
    (hj : s.job = some { kind := .tracker .resume d, selects := sel }) : s.resumeComplete = s.setJob none := by
  rw [resumeComplete, hj]
  exact if_pos hpart

/-- The RESET job of a recovery that the sequence has taken over (assumption 19). -/
theorem resetJobComplete_takenOver (hpart : s.part = .resetting)
    (hj : s.job = some { kind := .tracker .reset d, selects := sel }) (hw : (s.tracker d).wantReset = true) :
    s.resetJobComplete = s.setJob none := by
  rw [resetJobComplete, hj]
  exact if_pos ⟨hpart, hw⟩

end State

/-- Settles O44: the discard of each kind of job within a reset sequence. -/
theorem completionsWithinResetDiscarded : Obligations.CompletionsWithinResetDiscarded := by
  intro s sel hpower hpart
  have hexec : ∀ t, s.powered t = .next t := fun t => s.powered_on t (hpower ▸ nofun)
  refine ⟨fun r m driven hj hw => ?_, fun r m hj hw => ⟨fun ht => ?_, fun ht => ?_⟩, fun d => ⟨fun b hj => ?_,
    fun hj => ?_, fun hj => ?_, fun hj => ?_, fun hj hw => ?_⟩⟩
  · rw [exec, execReadJobComplete, hexec, State.readJobComplete_resetting hpart hj hw]
    rfl
  · rw [exec, execStartJobComplete, hexec, State.startJobComplete_resetting hpart hj hw,
      Tracker.startDiscarded_idle ht]
    rfl
  · rw [exec, execStartJobComplete, hexec, State.startJobComplete_resetting hpart hj hw,
      Tracker.startDiscarded_other (ht ▸ nofun)]
    exact congrArg (fun l => Host.Outcome.next ({ s with job := none, trackers := l } : State))
      (s.set_tracker_self r.device)
  · rw [exec, execPollComplete, hexec, State.pollComplete_resetting hpart hj]
    rfl
  · rw [exec, execPollComplete, hexec, State.pollComplete_resetting hpart hj]
    rfl
  · rw [exec, execSuspendComplete, hexec, State.suspendComplete_resetting hpart hj]
    rfl
  · rw [exec, execResumeComplete, hexec, State.resumeComplete_resetting hpart hj]
    rfl
  · rw [exec, execResetJobComplete, hexec, State.resetJobComplete_takenOver hpart hj hw]
    rfl

end Sys2Proof.Machine
end

section
/-! SUPPORT. The laws of one tracker, and what keeps them: the operation stack, the entry into RECOVERING, ticks, and
the wants of SUSPEND and RESUME. -/

namespace Sys2Proof.Machine

/-! ## Stacks (R83, R90) -/

/-- At most two records, and of two the lower is a suspended ERASE whose range the upper, a PROGRAM, lies outside. -/
def paired (l : List OpRecord) : Prop :=
  l.length ≤ 2 ∧ ∀ upper lower, l = [upper, lower] →
    upper.kind = .program ∧ lower.kind = .erase ∧ lower.state = .suspended ∧ liesOutside upper lower

theorem paired_nil : paired [] := by simp [paired]

theorem paired_single (rec : OpRecord) : paired [rec] := by simp [paired]

/-- What an event leaves of a record that stays on its stack: its kind, its state, its range and its suspend count, and
a busy time within its limit. -/
structure OpRecord.Stays (rec rec' : OpRecord) : Prop where
  kind : rec'.kind = rec.kind
  state : rec'.state = rec.state
  start : rec'.start = rec.start
  length : rec'.length = rec.length
  suspendCount : rec'.suspendCount = rec.suspendCount
  busy : rec.busyTime ≤ rec.limit → rec'.busyTime ≤ rec'.limit

theorem OpRecord.Stays.refl (rec : OpRecord) : rec.Stays rec := ⟨rfl, rfl, rfl, rfl, rfl, id⟩

theorem OpRecord.Stays.overlapsRequest {rec rec' : OpRecord} (h : rec.Stays rec') (r : Request) :
    rec'.overlapsRequest r = rec.overlapsRequest r := by
  rw [OpRecord.overlapsRequest, OpRecord.overlapsRequest, h.start, h.length]

/-- The records that an event leaves on a stack, in their order. -/
abbrev StackStays (l l' : List OpRecord) : Prop := List.Forall₂ OpRecord.Stays l l'

theorem stackStays_map {f : OpRecord → OpRecord} (hf : ∀ rec, OpRecord.Stays rec (f rec)) (l : List OpRecord) :
    StackStays l (l.map f) :=
  List.forall₂_map_right_iff.mpr (List.forall₂_same.mpr fun rec _ => hf rec)

theorem StackStays.mem {l l' : List OpRecord} (h : StackStays l l') {rec' : OpRecord} (hr : rec' ∈ l') :
    ∃ rec ∈ l, rec.Stays rec' := by
  induction h with
  | nil => cases hr
  | cons hstays _ ih =>
    rcases List.mem_cons.mp hr with rfl | hr
    · exact ⟨_, List.mem_cons_self, hstays⟩
    · obtain ⟨rec, hmem, h⟩ := ih hr
      exact ⟨rec, List.mem_cons_of_mem _ hmem, h⟩

theorem StackStays.single {l : List OpRecord} {rec : OpRecord} (h : StackStays [rec] l) :
    ∃ rec', l = [rec'] ∧ rec.Stays rec' := by
  obtain _ | ⟨hstays, hrest⟩ := h
  cases hrest
  exact ⟨_, rfl, hstays⟩

theorem StackStays.paired {l l' : List OpRecord} (h : StackStays l l') (hp : paired l) : paired l' := by
  refine ⟨h.length_eq ▸ hp.1, ?_⟩
  rintro upper lower rfl
  obtain _ | @⟨u, _, _, _, hu, hrest⟩ := h
  obtain _ | @⟨l, _, _, _, hl, hnil⟩ := hrest
  cases hnil
  obtain ⟨hprogram, herase, hsuspended, hout⟩ := hp.2 u l rfl
  refine ⟨hu.kind.trans hprogram, hl.kind.trans herase, hl.state.trans hsuspended, ?_⟩
  rw [liesOutside, hu.start, hu.length, hl.start, hl.length]
  exact hout

/-- A record set to LOST at the entry into RECOVERING stays otherwise (R62). -/
theorem stays_lost (rec : OpRecord) :
    rec.Stays { rec with deadlineDue := false, endStatus := some (rec.endStatus.getD .lost) } :=
  ⟨rfl, rfl, rfl, rfl, rfl, id⟩

theorem stays_abortIfTarget (p : Port) (tag : Byte) (rec : OpRecord) : rec.Stays (rec.abortIfTarget p tag) := by
  unfold OpRecord.abortIfTarget
  split
  · exact ⟨rfl, rfl, rfl, rfl, rfl, id⟩
  · exact .refl rec

theorem stays_tick (rec : OpRecord) : rec.Stays rec.tick := by
  obtain ⟨_, hlt, e⟩ | ⟨_, _, e⟩ | ⟨_, e⟩ := rec.tick_cases <;> rw [e]
  · exact ⟨rfl, rfl, rfl, rfl, rfl, fun _ => hlt.le⟩
  · exact ⟨rfl, rfl, rfl, rfl, rfl, id⟩
  · exact .refl rec

@[simp] theorem tick_endStatus (rec : OpRecord) : rec.tick.endStatus = rec.endStatus := by
  obtain ⟨_, _, e⟩ | ⟨_, _, e⟩ | ⟨_, e⟩ := rec.tick_cases <;> rw [e]

/-! ## The laws of one tracker -/

/-- A record's busy time and its deadline are as R55 has them. -/
def OpRecord.timely (rec : OpRecord) : Prop :=
  rec.busyTime ≤ rec.limit
  ∧ (rec.endStatus = none → 0 < rec.limit → rec.busyTime < rec.limit)
  ∧ (rec.deadlineDue → rec.endStatus = none ∧ rec.state ≠ .suspended)

/-- The device is there, and neither recovers nor is out of service (R48). -/
def TrackerState.working (st : TrackerState) : Prop := st ≠ .offline ∧ st ≠ .recovering ∧ st ≠ .faulted

theorem TrackerState.working_running : TrackerState.running.working := by simp [working]
theorem TrackerState.working_suspending : TrackerState.suspending.working := by simp [working]
theorem TrackerState.working_suspended : TrackerState.suspended.working := by simp [working]

/-- The laws of a tracker with its device's profile, but for its wants of SUSPEND and RESUME, which the close of an
event sets afresh. -/
structure Tracker.Sound (prof : Profile) (t : Tracker) : Prop where
  shape : t.shape
  poll : t.wantPoll = true → t.state = .running ∨ t.state = .suspending
  reset : t.wantReset = true → t.state = .recovering ∧ t.resetSettle = none
  pollTimer : t.pollTimer ≠ none → (t.state = .running ∨ t.state = .suspending) ∧ ¬ t.wantPoll = true
  suspendSettle : t.suspendSettle ≠ none → t.state = .suspending
  resetSettle : t.resetSettle ≠ none → t.state = .recovering ∧ t.stack = []
  cause : t.cause ≠ none → t.state = .recovering
  offline : t.state = .offline ↔ prof.present = false
  suspends : ∀ rec ∈ t.stack, rec.suspendCount ≤ prof.suspendLimit
    ∧ (rec.state = .suspending → t.state ≠ .recovering → rec.suspendCount < prof.suspendLimit)
  timeouts : t.timeouts ≤ 3
    ∧ (t.timeouts = 3 → t.state = .recovering ∧ t.cause = some .timeout ∨ t.state = .faulted)
    ∧ (t.state = .faulted → t.timeouts = 3)
  deadlines : ∀ rec ∈ t.stack, rec.timely
  faulted : t.state = .faulted → t.refCount = 0

/-- The wants of a tracker for SUSPEND and RESUME stand only where they may (R74, R86, R89). -/
structure Tracker.Wants (prof : Profile) (t : Tracker) : Prop where
  suspend : t.wantSuspend = true →
    t.state = .running ∧ ∃ rec, t.stack = [rec] ∧ rec.suspendCount < prof.suspendLimit
  resume : t.wantResume = true → t.state = .suspended ∧ t.stack.length = 1

namespace Tracker

variable {prof : Profile} {t u : Tracker}

/-- No tracker's stack is larger than a pair (R90). -/
theorem shape_paired (h : t.shape) : paired t.stack := by
  unfold shape at h
  split at h
  case h_1 | h_2 | h_3 => exact h ▸ paired_nil
  case h_4 =>
    obtain ⟨rec, e, _⟩ | ⟨upper, lower, e, hu, _, _, _, hl, hs, _, hout⟩ := h
    · exact e ▸ paired_single rec
    · refine e ▸ ⟨by simp, ?_⟩
      rintro _ _ ⟨⟩
      exact ⟨hu, hl, hs, hout⟩
  case h_5 | h_6 =>
    obtain ⟨rec, e, _⟩ := h
    exact e ▸ paired_single rec
  case h_7 => exact ⟨h.1, h.2.2⟩

/-! What a tracker's state says of its shape -/

theorem shape_of_empty (h : t.shape) (hs : t.state = .idle ∨ t.state = .offline ∨ t.state = .faulted) :
    t.stack = [] := by
  rcases hs with e | e | e <;> simpa [shape, e] using h

theorem shape_of_running (h : t.shape) (hs : t.state = .running) :
    (∃ rec, t.stack = [rec] ∧ rec.state = .running ∧ rec.endStatus = none)
    ∨ ∃ upper lower, t.stack = [upper, lower] ∧ upper.kind = .program ∧ upper.state = .running
        ∧ upper.endStatus = none ∧ upper.suspendCount = 0 ∧ lower.kind = .erase ∧ lower.state = .suspended
        ∧ lower.endStatus = none ∧ liesOutside upper lower := by
  simpa [shape, hs] using h

theorem shape_of_suspending (h : t.shape) (hs : t.state = .suspending) :
    ∃ rec, t.stack = [rec] ∧ rec.state = .suspending ∧ rec.endStatus = none := by
  simpa [shape, hs] using h

theorem shape_of_suspended (h : t.shape) (hs : t.state = .suspended) :
    ∃ rec, t.stack = [rec] ∧ rec.state = .suspended ∧ rec.endStatus = none := by
  simpa [shape, hs] using h

theorem shape_recovering_iff (hs : t.state = .recovering) :
    t.shape ↔ paired t.stack ∧ ∀ rec ∈ t.stack, rec.endStatus ≠ none := by
  unfold shape paired
  rw [hs]
  exact ⟨fun ⟨a, b, c⟩ => ⟨⟨a, c⟩, b⟩, fun ⟨⟨a, c⟩, b⟩ => ⟨a, b, c⟩⟩

/-- A tracker with a record that has not ended is RUNNING, SUSPENDING or SUSPENDED. -/
theorem active_of_open (h : t.shape) {rec : OpRecord} (hr : rec ∈ t.stack) (ho : rec.endStatus = none) :
    t.state = .running ∨ t.state = .suspending ∨ t.state = .suspended := by
  cases hs : t.state with
  | running | suspending | suspended => simp
  | recovering => exact absurd ho (((shape_recovering_iff hs).mp h).2 rec hr)
  | offline | idle | faulted =>
    rw [shape_of_empty h (by simp [hs])] at hr
    cases hr

namespace Sound

theorem present (h : t.Sound prof) (hs : t.state ≠ .offline) : prof.present = true :=
  Bool.eq_true_of_not_eq_false fun e => hs (h.offline.mpr e)

theorem resetSettle_none (h : t.Sound prof) (hs : t.state ≠ .recovering) : t.resetSettle = none :=
  not_not.mp fun e => hs (h.resetSettle e).1

theorem cause_none (h : t.Sound prof) (hs : t.state ≠ .recovering) : t.cause = none :=
  not_not.mp fun e => hs (h.cause e)

theorem suspendSettle_none (h : t.Sound prof) (hs : t.state ≠ .suspending) : t.suspendSettle = none :=
  not_not.mp fun e => hs (h.suspendSettle e)

theorem wantPoll_false (h : t.Sound prof) (hr : t.state ≠ .running) (hs : t.state ≠ .suspending) :
    t.wantPoll = false :=
  Bool.eq_false_iff.mpr fun e => (h.poll e).elim hr hs

theorem pollTimer_none (h : t.Sound prof) (hr : t.state ≠ .running) (hs : t.state ≠ .suspending) :
    t.pollTimer = none :=
  not_not.mp fun e => (h.pollTimer e).1.elim hr hs

/-- Outside a recovery and FAULTED the consecutive-timeout count is below 3 (R53). -/
theorem timeouts_lt (h : t.Sound prof) (hr : t.state ≠ .recovering) (hf : t.state ≠ .faulted) : t.timeouts < 3 :=
  lt_of_le_of_ne h.timeouts.1 fun e => (h.timeouts.2.1 e).elim (fun x => hr x.1) hf

/-- The entry into RECOVERING of a tracker whose stack is paired (R62). -/
theorem of_recover {c : Cause} (hpaired : paired u.stack) (hsettle : u.resetSettle = none)
    (hpresent : prof.present = true)
    (hsuspends : ∀ rec ∈ u.stack, rec.suspendCount ≤ prof.suspendLimit)
    (hbusy : ∀ rec ∈ u.stack, rec.busyTime ≤ rec.limit)
    (htimeouts : u.timeouts ≤ 3 ∧ (u.timeouts = 3 → c = .timeout)) : (u.recover c).Sound prof where
  shape := (shape_recovering_iff rfl).mpr
    ⟨(stackStays_map stays_lost u.stack).paired hpaired, u.recover_all_ending c⟩
  poll := nofun
  reset _ := ⟨rfl, hsettle⟩
  pollTimer h := absurd rfl h
  suspendSettle h := absurd rfl h
  resetSettle h := absurd hsettle h
  cause _ := rfl
  offline := ⟨nofun, fun e => absurd (hpresent.symm.trans e) nofun⟩
  suspends rec' hr := by
    obtain ⟨rec, hrec, hs⟩ := (stackStays_map stays_lost u.stack).mem hr
    exact ⟨hs.suspendCount ▸ hsuspends rec hrec, fun _ h => absurd rfl h⟩
  timeouts := ⟨htimeouts.1, fun e => .inl ⟨rfl, congrArg some (htimeouts.2 e)⟩, nofun⟩
  deadlines rec' hr := by
    obtain ⟨rec, hrec, rfl⟩ := List.mem_map.mp hr
    exact ⟨hbusy rec hrec, nofun, nofun⟩
  faulted := nofun

/-- A tracker with a record that has not ended enters RECOVERING, its records staying where they are. -/
theorem enter_recovery (h : t.Sound prof) {rec : OpRecord} (hr : rec ∈ t.stack) (ho : rec.endStatus = none)
    (hstays : StackStays t.stack u.stack) (hsettle : u.resetSettle = t.resetSettle) {c : Cause}
    (htimeouts : t.timeouts < 3 → u.timeouts ≤ 3 ∧ (u.timeouts = 3 → c = .timeout)) :
    (u.recover c).Sound prof := by
  have hactive := active_of_open h.shape hr ho
  have hne : t.state ≠ .recovering ∧ t.state ≠ .faulted ∧ t.state ≠ .offline := by
    rcases hactive with e | e | e <;> simp [e]
  refine .of_recover (hstays.paired (shape_paired h.shape)) (hsettle.trans (h.resetSettle_none hne.1))
    (h.present hne.2.2) (fun x hx => ?_) (fun x hx => ?_) (htimeouts (h.timeouts_lt hne.1 hne.2.1))
  · obtain ⟨y, hy, hs⟩ := hstays.mem hx
    exact hs.suspendCount ▸ (h.suspends y hy).1
  · obtain ⟨y, hy, hs⟩ := hstays.mem hx
    exact hs.busy (h.deadlines y hy).1

/-- A tracker that goes from one working state to another: its reset, its cause and its timeouts stay as they are. -/
theorem of_working (h : t.Sound prof) (ht : t.state.working) (hu : u.state.working)
    (hreset : u.wantReset = t.wantReset) (hsettle : u.resetSettle = t.resetSettle)
    (hcause : u.cause = t.cause) (htimeouts : u.timeouts ≤ t.timeouts)
    (shape : u.shape) (poll : u.wantPoll = true → u.state = .running ∨ u.state = .suspending)
    (pollTimer : u.pollTimer ≠ none → (u.state = .running ∨ u.state = .suspending) ∧ ¬ u.wantPoll = true)
    (suspendSettle : u.suspendSettle ≠ none → u.state = .suspending)
    (suspends : ∀ rec ∈ u.stack, rec.suspendCount ≤ prof.suspendLimit
      ∧ (rec.state = .suspending → rec.suspendCount < prof.suspendLimit))
    (deadlines : ∀ rec ∈ u.stack, rec.timely) : u.Sound prof where
  shape := shape
  poll := poll
  reset hw := absurd (h.reset (hreset ▸ hw)).1 ht.2.1
  pollTimer := pollTimer
  suspendSettle := suspendSettle
  resetSettle hx := absurd (h.resetSettle (hsettle ▸ hx)).1 ht.2.1
  cause hx := absurd (h.cause (hcause ▸ hx)) ht.2.1
  offline := ⟨fun e => absurd e hu.1, fun e => absurd ((h.present ht.1).symm.trans e) nofun⟩
  suspends rec hr := ⟨(suspends rec hr).1, fun hs _ => (suspends rec hr).2 hs⟩
  timeouts := by
    have hlt := htimeouts.trans_lt (h.timeouts_lt ht.2.1 ht.2.2)
    exact ⟨hlt.le, fun e => absurd e hlt.ne, fun e => absurd e hu.2.2⟩
  deadlines := deadlines
  faulted e := absurd e hu.2.2

/-- Only the wants of SUSPEND and RESUME change at the close of an event (R74, R86). -/
theorem rewant (h : t.Sound prof) (s : State) (d : Device) : (s.rewant d t).Sound prof :=
  ⟨h.shape, h.poll, h.reset, h.pollTimer, h.suspendSettle, h.resetSettle, h.cause, h.offline, h.suspends, h.timeouts,
    h.deadlines, h.faulted⟩

/-- A reference count that falls (R52). -/
theorem lowerRef (h : t.Sound prof) {n : Nat} (hn : n ≤ t.refCount) :
    ({ t with refCount := n } : Tracker).Sound prof :=
  ⟨h.shape, h.poll, h.reset, h.pollTimer, h.suspendSettle, h.resetSettle, h.cause, h.offline, h.suspends, h.timeouts,
    h.deadlines, fun e => Nat.le_zero.mp (h.faulted e ▸ hn)⟩

end Sound

/-! ## Ticks (R55) -/

theorem shape_tick (h : t.shape) : t.tick.shape := by
  have hstack : t.tick.stack = t.stack.map OpRecord.tick := rfl
  have hstate : t.tick.state = t.state := rfl
  cases hs : t.state with
  | offline | idle | faulted =>
    have e := shape_of_empty h (by simp [hs])
    simp [shape, hstate, hs, hstack, e]
  | running =>
    simp only [shape, hstate, hs, hstack]
    obtain ⟨rec, e, ha, hb⟩ | ⟨upper, lower, e, hu, hur, hue, huc, hl, hls, hle, hout⟩ := shape_of_running h hs
    · exact .inl ⟨rec.tick, by rw [e]; rfl, (stays_tick rec).state.trans ha, (tick_endStatus rec).trans hb⟩
    · have su := stays_tick upper
      have sl := stays_tick lower
      refine .inr ⟨upper.tick, lower.tick, by rw [e]; rfl, su.kind.trans hu, su.state.trans hur,
        (tick_endStatus _).trans hue, su.suspendCount.trans huc, sl.kind.trans hl, sl.state.trans hls,
        (tick_endStatus _).trans hle, ?_⟩
      rw [liesOutside, su.start, su.length, sl.start, sl.length]
      exact hout
  | suspending =>
    simp only [shape, hstate, hs, hstack]
    obtain ⟨rec, e, ha, hb⟩ := shape_of_suspending h hs
    exact ⟨rec.tick, by rw [e]; rfl, (stays_tick rec).state.trans ha, (tick_endStatus rec).trans hb⟩
  | suspended =>
    simp only [shape, hstate, hs, hstack]
    obtain ⟨rec, e, ha, hb⟩ := shape_of_suspended h hs
    exact ⟨rec.tick, by rw [e]; rfl, (stays_tick rec).state.trans ha, (tick_endStatus rec).trans hb⟩
  | recovering =>
    obtain ⟨hp, hall⟩ := (shape_recovering_iff hs).mp h
    refine (shape_recovering_iff (hstate.trans hs)).mpr
      ⟨(stackStays_map stays_tick t.stack).paired hp, fun rec' hr => ?_⟩
    obtain ⟨rec, hrec, rfl⟩ := List.mem_map.mp hr
    rw [tick_endStatus]
    exact hall rec hrec

/-- A tick raises a busy time only below the limit, and makes a deadline due only of a record that counts (R55). -/
theorem timely_tick {rec : OpRecord} (h : rec.timely) : rec.tick.timely := by
  obtain ⟨hbusy, hopen, hdue⟩ := h
  obtain ⟨_, hlt, e⟩ | ⟨hc, _, e⟩ | ⟨_, e⟩ := rec.tick_cases <;> rw [e]
  · exact ⟨hlt.le, fun _ _ => hlt, hdue⟩
  · simp only [OpRecord.counting, OpRecord.ending, Bool.and_eq_true, Bool.not_eq_true', Option.isSome_eq_false_iff,
      Option.isNone_iff_eq_none, bne_iff_ne] at hc
    exact ⟨hbusy, hopen, fun _ => hc⟩
  · exact ⟨hbusy, hopen, hdue⟩

theorem tickTimer_ne_none {timer : Option Nat} (h : tickTimer timer ≠ none) : timer ≠ none := by
  rintro rfl
  exact h rfl

theorem Sound.tick (h : t.Sound prof) : t.tick.Sound prof where
  shape := shape_tick h.shape
  poll := h.poll
  reset hw := ⟨(h.reset hw).1, by show tickTimer t.resetSettle = none; rw [(h.reset hw).2]; rfl⟩
  pollTimer hp := h.pollTimer (tickTimer_ne_none hp)
  suspendSettle hp := h.suspendSettle (tickTimer_ne_none hp)
  resetSettle hp := by
    obtain ⟨hs, he⟩ := h.resetSettle (tickTimer_ne_none hp)
    exact ⟨hs, by show t.stack.map OpRecord.tick = []; rw [he]; rfl⟩
  cause := h.cause
  offline := h.offline
  suspends rec' hr := by
    obtain ⟨rec, hrec, hs⟩ := (stackStays_map stays_tick t.stack).mem hr
    rw [hs.suspendCount, hs.state]
    exact h.suspends rec hrec
  timeouts := h.timeouts
  deadlines rec' hr := by
    obtain ⟨rec, hrec, rfl⟩ := List.mem_map.mp hr
    exact timely_tick (h.deadlines rec hrec)
  faulted := h.faulted

theorem Wants.tick (h : t.Wants prof) : t.tick.Wants prof where
  suspend hw := by
    obtain ⟨hs, rec, e, hc⟩ := h.suspend hw
    exact ⟨hs, rec.tick, by show t.stack.map OpRecord.tick = _; rw [e]; rfl, (stays_tick rec).suspendCount ▸ hc⟩
  resume hw := by
    obtain ⟨hs, hlen⟩ := h.resume hw
    exact ⟨hs, (List.length_map _).trans hlen⟩

end Tracker

/-! ## The trackers that a reset sequence or cold start leaves (R68, R178, R183) -/

/-- A tracker that a reset sequence has taken over, or a cold one: OFFLINE, IDLE or RECOVERING with an empty stack. -/
theorem takenOver_sound {prof : Profile} {st : TrackerState} {want : Bool}
    (hst : st = .offline ∨ st = .idle ∨ st = .recovering) (hwant : want = true → st = .recovering)
    (hoff : st = .offline ↔ prof.present = false) : (takenOver st want).Sound prof where
  shape := by rcases hst with rfl | rfl | rfl <;> simp [takenOver, Tracker.cold, Tracker.shape]
  poll := nofun
  reset h := ⟨hwant h, rfl⟩
  pollTimer h := absurd rfl h
  suspendSettle h := absurd rfl h
  resetSettle h := absurd rfl h
  cause h := absurd rfl h
  offline := hoff
  suspends := nofun
  timeouts := ⟨Nat.zero_le _, nofun, by rcases hst with rfl | rfl | rfl <;> exact nofun⟩
  deadlines := nofun
  faulted _ := rfl

theorem takenOver_wants (prof : Profile) (st : TrackerState) (want : Bool) : (takenOver st want).Wants prof :=
  ⟨nofun, nofun⟩

theorem warm_sound {prof : Profile} {t : Tracker} (h : t.Sound prof) : t.warm.Sound prof := by
  unfold Tracker.warm
  split
  · next hn =>
    have hp : prof.present = true := h.present (by rintro e; rw [e] at hn; cases hn)
    exact takenOver_sound (by simp) (fun _ => rfl) (by simp [hp])
  · next hn =>
    refine takenOver_sound ?_ nofun h.offline
    cases hs : t.state <;> simp [hs, TrackerState.needsReset] at hn ⊢

theorem pinned_sound {prof : Profile} {t : Tracker} (h : t.Sound prof) : (t.pinned prof).Sound prof := by
  unfold Tracker.pinned
  split
  · next hp => exact takenOver_sound (by simp) nofun (by simp [hp])
  · next hp =>
    exact takenOver_sound (.inl (h.offline.mpr (Bool.eq_false_iff.mpr hp))) nofun h.offline

end Sys2Proof.Machine
end

section
/-! SUPPORT. What each completion, expiry and write does to one tracker, with the job in progress on its device: the
tracker laws of the result. -/

namespace Sys2Proof.Machine

/-! ## The job in progress and its tracker (R54, R59, R99, R100) -/

/-- What a job in progress finds on the tracker of its device, the part and the device's profile given. -/
def JobKind.fits (part : PartState) (prof : Profile) (t : Tracker) : JobKind → Prop
  | .request r _ => part = .operating →
    (∀ rec ∈ t.stack, rec.overlapsRequest r = false)
    ∧ (t.state = .idle
      ∨ (t.state = .suspended ∨ t.state = .recovering ∧ t.wantReset = true)
        ∧ ∃ rec, t.stack = [rec] ∧ rec.state = .suspended
          ∧ (r.work = .read ∨ rec.kind = .erase ∧ ∃ data, r.work = .program data))
  | .tracker .poll _ => t.wantPoll = false ∧ t.pollTimer = none
  | .tracker .suspend _ => part = .operating →
    t.state = .recovering ∧ t.wantReset = true
    ∨ t.state = .running ∧ ∃ rec, t.stack = [rec] ∧ rec.suspendCount < prof.suspendLimit
  | .tracker .resume _ => part = .operating →
    t.state = .recovering ∧ t.wantReset = true ∨ t.state = .suspended
  | .tracker .reset _ => t.state = .recovering ∧ t.resetSettle = none ∧ (part = .operating → t.wantReset = false)

theorem meets_iff {s : State} {k : JobKind} :
    k.meets s ↔ k.fits s.part (s.profile k.device) (s.tracker k.device) := by
  cases k with
  | request r m => rfl
  | tracker k d => cases k <;> rfl

namespace Tracker

variable {part : PartState} {prof : Profile} {t u : Tracker} {k : JobKind} {r : Request} {m : Bool} {d : Device}

/-- A job that is in progress when its tracker, holding an open record, enters RECOVERING (R59, R100). -/
theorem fits_recover (h : k.fits part prof t) (hs : t.state = .running ∨ t.state = .suspending ∨ t.state = .suspended)
    (hstays : StackStays t.stack u.stack) (c : Cause) : k.fits part prof (u.recover c) := by
  have hno : t.state ≠ .idle ∧ t.state ≠ .recovering := by rcases hs with e | e | e <;> simp [e]
  cases k with
  | request r m =>
    intro hpart
    obtain ⟨hout, hidle | ⟨_, rec, e, hsus, hkind⟩⟩ := h hpart
    · exact absurd hidle hno.1
    · rw [e] at hstays
      obtain ⟨rec', e', hstay⟩ := hstays.single
      have hlost := hstay.state.trans hsus
      have hone := u.recover_stack c
      rw [e', List.map_singleton] at hone
      refine ⟨fun x hx => ?_, .inr ⟨.inr ⟨rfl, rfl⟩, _, hone, hlost,
        hkind.imp_right fun ⟨hk, hw⟩ => ⟨hstay.kind.trans hk, hw⟩⟩⟩
      rw [hone, List.mem_singleton] at hx
      rw [hx, (stays_lost rec').overlapsRequest, hstay.overlapsRequest]
      exact hout rec (by simp [e])
  | tracker k d =>
    cases k with
    | poll => exact ⟨rfl, rfl⟩
    | suspend => exact fun _ => .inl ⟨rfl, rfl⟩
    | resume => exact fun _ => .inl ⟨rfl, rfl⟩
    | reset => exact absurd h.1 hno.2

theorem fits_tick (h : k.fits part prof t) : k.fits part prof t.tick := by
  have hstack : ∀ {rec}, t.stack = [rec] → t.tick.stack = [rec.tick] := fun e => by
    show t.stack.map OpRecord.tick = _
    rw [e]
    rfl
  cases k with
  | request r m =>
    intro hpart
    obtain ⟨hout, hrest⟩ := h hpart
    refine ⟨fun x hx => ?_, hrest.imp_right fun ⟨hs, rec, e, hsus, hkind⟩ => ⟨hs, rec.tick, hstack e,
      (stays_tick rec).state.trans hsus, hkind.imp_right fun ⟨hk, hw⟩ => ⟨(stays_tick rec).kind.trans hk, hw⟩⟩⟩
    obtain ⟨rec, hrec, rfl⟩ := List.mem_map.mp hx
    rw [(stays_tick rec).overlapsRequest]
    exact hout rec hrec
  | tracker k d =>
    cases k with
    | poll => exact ⟨h.1, by show tickTimer t.pollTimer = none; rw [h.2]; rfl⟩
    | suspend =>
      exact fun hpart => (h hpart).imp_right fun ⟨hs, rec, e, hc⟩ =>
        ⟨hs, rec.tick, hstack e, (stays_tick rec).suspendCount ▸ hc⟩
    | resume => exact h
    | reset => exact ⟨h.1, by show tickTimer t.resetSettle = none; rw [h.2.1]; rfl, h.2.2⟩

/-- A warm reset sequence leaves the job to run: what it finds then is open, but for POLL and RESET (R178). -/
theorem fits_warm (h : k.fits .operating prof t) : k.fits .resetting prof t.warm := by
  have hw : t.warm.wantPoll = false ∧ t.warm.pollTimer = none ∧ t.warm.resetSettle = none := by
    unfold warm
    split <;> exact ⟨rfl, rfl, rfl⟩
  cases k with
  | request r m => exact nofun
  | tracker k d =>
    cases k with
    | poll => exact ⟨hw.1, hw.2.1⟩
    | suspend => exact nofun
    | resume => exact nofun
    | reset =>
      refine ⟨?_, hw.2.2, nofun⟩
      rw [warm, h.1]
      rfl

/-! ## Start jobs (R54, R83, R174) -/

/-- The record of a start job joins a paired stack: it is alone, or a PROGRAM above a suspended ERASE whose range it
lies outside (R83). -/
theorem paired_push (h : t.shape) (hf : (JobKind.request r m).fits .operating prof t) (hw : r.work ≠ .read)
    (marked : Bool) (e : Option EndStatus) : paired (r.toRecord prof marked e :: t.stack) := by
  obtain ⟨hout, hidle | ⟨_, rec, hstack, hsus, hkind⟩⟩ := hf rfl
  · rw [shape_of_empty h (.inl hidle)]
    exact paired_single _
  · obtain hread | ⟨herase, data, hdata⟩ := hkind
    · exact absurd hread hw
    · rw [hstack]
      refine ⟨by simp, ?_⟩
      rintro _ _ ⟨⟩
      refine ⟨by rw [Request.toRecord, hdata], herase, hsus, ?_⟩
      rw [liesOutside, overlaps_comm]
      exact hout rec (by simp [hstack])

theorem Sound.push_recovering (h : t.Sound prof) (hs : t.state = .recovering)
    (hf : (JobKind.request r m).fits .operating prof t) (hw : r.work ≠ .read) (marked : Bool) (e : EndStatus) :
    ({ t with stack := r.toRecord prof marked (some e) :: t.stack } : Tracker).Sound prof := by
  have hwant : t.wantReset = true := by
    obtain ⟨_, hi | ⟨hi | hi, _⟩⟩ := hf rfl
    · exact absurd (hs.symm.trans hi) nofun
    · exact absurd (hs.symm.trans hi) nofun
    · exact hi.2
  refine ⟨(shape_recovering_iff (by exact hs)).mpr ⟨paired_push h.shape hf hw marked (some e), fun x hx => ?_⟩,
    h.poll, h.reset, h.pollTimer, h.suspendSettle, fun hx => absurd (h.reset hwant).2 hx, h.cause, h.offline,
    fun x hx => ?_, h.timeouts, fun x hx => ?_, h.faulted⟩
  · rcases List.mem_cons.mp hx with rfl | hx
    · exact nofun
    · exact ((shape_recovering_iff hs).mp h.shape).2 x hx
  · rcases List.mem_cons.mp hx with rfl | hx
    · exact ⟨Nat.zero_le _, nofun⟩
    · exact h.suspends x hx
  · rcases List.mem_cons.mp hx with rfl | hx
    · exact ⟨Nat.zero_le _, nofun, nofun⟩
    · exact h.deadlines x hx

theorem Sound.push_running (h : t.Sound prof) (hs : t.state ≠ .recovering)
    (hf : (JobKind.request r m).fits .operating prof t) (hw : r.work ≠ .read) (timer : Option Nat) :
    ({ t with
      stack := r.toRecord prof false none :: t.stack
      state := .running
      pollTimer := timer } : Tracker).Sound prof := by
  have hstate : t.state = .idle ∨ t.state = .suspended := by
    obtain ⟨_, hi | ⟨hi | hi, _⟩⟩ := hf rfl
    · exact .inl hi
    · exact .inr hi
    · exact absurd hi.1 hs
  have hne : t.state.working ∧ t.state ≠ .running ∧ t.state ≠ .suspending := by
    rcases hstate with e | e <;> simp [e, TrackerState.working]
  have hpoll := h.wantPoll_false hne.2.1 hne.2.2
  have hsettle := h.suspendSettle_none hne.2.2
  refine h.of_working hne.1 TrackerState.working_running
    (by rfl) (by rfl) (by rfl) (by rfl) ?_ (fun _ => .inl rfl) (fun _ => ⟨.inl rfl, Bool.eq_false_iff.mp hpoll⟩)
    (fun hx => absurd hsettle hx) (fun x hx => ?_) fun x hx => ?_
  · rcases hstate with e | e
    · exact .inl ⟨_, by rw [shape_of_empty h.shape (.inl e)], rfl, rfl⟩
    · obtain ⟨rec, hstack, hsus, hopen⟩ := shape_of_suspended h.shape e
      obtain ⟨hk, hl, hls, hout⟩ := (paired_push h.shape hf hw false none).2 _ rec (by rw [hstack])
      exact .inr ⟨_, rec, by rw [hstack], hk, rfl, rfl, rfl, hl, hls, hopen, hout⟩
  · rcases List.mem_cons.mp hx with rfl | hx
    · exact ⟨Nat.zero_le _, nofun⟩
    · exact ⟨(h.suspends x hx).1, fun hsus => (h.suspends x hx).2 hsus hs⟩
  · rcases List.mem_cons.mp hx with rfl | hx
    · exact ⟨Nat.zero_le _, fun _ hl => hl, nofun⟩
    · exact h.deadlines x hx

/-- A start job's completion keeps the laws of its tracker (R54, R174). -/
theorem Sound.push (h : t.Sound prof) (hf : (JobKind.request r m).fits .operating prof t) (hw : r.work ≠ .read) :
    (t.push prof r m).Sound prof := by
  unfold Tracker.push
  split
  · next hs => exact h.push_recovering hs hf hw m _
  · next hs =>
    split
    · have hne : t.state ≠ .offline ∧ t.state ≠ .faulted := by
        obtain ⟨_, hi | ⟨hi | hi, _⟩⟩ := hf rfl
        · simp [hi]
        · simp [hi]
        · exact absurd hi.1 hs
      refine .of_recover (paired_push h.shape hf hw true (some .aborted)) (h.resetSettle_none hs) (h.present hne.1)
        (fun x hx => ?_) (fun x hx => ?_)
        ⟨h.timeouts.1, fun hx => absurd hx (h.timeouts_lt hs hne.2).ne⟩
      · rcases List.mem_cons.mp hx with rfl | hx
        · exact Nat.zero_le _
        · exact (h.suspends x hx).1
      · rcases List.mem_cons.mp hx with rfl | hx
        · exact Nat.zero_le _
        · exact (h.deadlines x hx).1
    · exact h.push_running hs hf hw _

/-- Within a warm reset sequence a start job makes an IDLE tracker RECOVERING (R179). -/
theorem Sound.startDiscarded (h : t.Sound prof) : t.startDiscarded.Sound prof := by
  unfold Tracker.startDiscarded
  split
  · next hs =>
    have hr : t.state ≠ .recovering := by simp [hs]
    have hempty := shape_of_empty h.shape (.inl hs)
    have hnone : ∀ rec, rec ∉ t.stack := fun rec => by simp [hempty]
    have hpaired := shape_paired h.shape
    refine ⟨(shape_recovering_iff (by rfl)).mpr ⟨hpaired, fun x hx => absurd hx (hnone x)⟩,
      fun hx => (h.poll hx).elim (fun e => absurd (hs.symm.trans e) nofun) fun e => absurd (hs.symm.trans e) nofun,
      fun _ => ⟨rfl, h.resetSettle_none hr⟩,
      fun hx => absurd (h.pollTimer_none (by simp [hs]) (by simp [hs])) hx,
      fun hx => absurd (h.suspendSettle_none (by simp [hs])) hx, fun hx => absurd (h.resetSettle_none hr) hx,
      fun _ => rfl, ⟨nofun, fun hp => absurd ((h.present (by simp [hs])).symm.trans hp) nofun⟩,
      fun x hx => absurd hx (hnone x),
      ⟨h.timeouts.1, fun hx => absurd hx (h.timeouts_lt hr (by simp [hs])).ne, nofun⟩,
      fun x hx => absurd hx (hnone x), nofun⟩
  · exact h

theorem Wants.startDiscarded (h : t.Wants prof) : t.startDiscarded.Wants prof := by
  unfold Tracker.startDiscarded
  split
  · next hs =>
    exact ⟨fun hx => absurd (hs.symm.trans (h.suspend hx).1) nofun,
      fun hx => absurd (hs.symm.trans (h.resume hx).1) nofun⟩
  · exact h

/-! ## POLL, SUSPEND, RESUME and RESET completion (R57, R58, R63, R76, R77, R88) -/

/-- The poll timer of a RUNNING or SUSPENDING tracker is armed, its POLL not being wanted (R56, R57). -/
theorem Sound.rearmed (h : t.Sound prof) (hs : t.state = .running ∨ t.state = .suspending) (hw : t.wantPoll = false)
    (timer : Option Nat) : ({ t with pollTimer := timer } : Tracker).Sound prof :=
  ⟨h.shape, h.poll, h.reset, fun _ => ⟨hs, Bool.eq_false_iff.mp hw⟩, h.suspendSettle, h.resetSettle, h.cause,
    h.offline, h.suspends, h.timeouts, h.deadlines, h.faulted⟩

/-- A suspension that has taken hold counts once more, up to the limit (R77, R89). -/
theorem Sound.holdSuspended (h : t.Sound prof) (hs : t.state = .suspending) : t.holdSuspended.Sound prof := by
  obtain ⟨rec, hstack, hsus, hopen⟩ := shape_of_suspending h.shape hs
  have hrec : rec ∈ t.stack := by simp [hstack]
  obtain ⟨hbusy, hlt, _⟩ := h.deadlines rec hrec
  rw [holdSuspended_of_top hstack]
  refine h.of_working (hs ▸ TrackerState.working_suspending) TrackerState.working_suspended
    (by rfl) (by rfl) (by rfl) (by rfl)
    ⟨_, rfl, rfl, hopen⟩ nofun (fun hx => absurd rfl hx) (fun hx => absurd rfl hx) (fun x hx => ?_) fun x hx => ?_
  · rw [List.mem_singleton.mp hx]
    exact ⟨(h.suspends rec hrec).2 hsus (by simp [hs]), nofun⟩
  · rw [List.mem_singleton.mp hx]
    exact ⟨hbusy, hlt, nofun⟩

/-- Below the record that a poll ends stands nothing, or a suspended ERASE (R58, R90). -/
theorem Sound.popTop (h : t.Sound prof) (hs : t.state = .running ∨ t.state = .suspending) : t.popTop.Sound prof := by
  have hr : t.state ≠ .recovering := by rcases hs with e | e <;> simp [e]
  have htail : t.stack.tail = [] ∨ ∃ rec, t.stack.tail = [rec] ∧ rec.state = .suspended ∧ rec.endStatus = none := by
    rcases hs with e | e
    · obtain ⟨rec, hstack, _⟩ | ⟨_, lower, hstack, _, _, _, _, _, hls, hle, _⟩ := shape_of_running h.shape e
      · exact .inl (by rw [hstack]; rfl)
      · exact .inr ⟨lower, by rw [hstack]; rfl, hls, hle⟩
    · obtain ⟨rec, hstack, _⟩ := shape_of_suspending h.shape e
      exact .inl (by rw [hstack]; rfl)
  have hstate : t.popTop.state = .idle ∧ t.stack.tail = []
      ∨ t.popTop.state = .suspended
        ∧ ∃ rec, t.stack.tail = [rec] ∧ rec.state = .suspended ∧ rec.endStatus = none := by
    rcases htail with e | ⟨rec, e, hrest⟩
    · exact .inl ⟨by simp [Tracker.popTop, e], e⟩
    · exact .inr ⟨by simp [Tracker.popTop, e], rec, e, hrest⟩
  have hmem : ∀ x ∈ t.popTop.stack, x ∈ t.stack := fun x hx => List.mem_of_mem_tail hx
  refine h.of_working (by rcases hs with e | e <;> simp [TrackerState.working, e])
    (by rcases hstate with ⟨e, _⟩ | ⟨e, _⟩ <;> simp [TrackerState.working, e]) (by rfl) (by rfl) (by rfl)
    (Nat.zero_le _) ?_ nofun (fun hx => absurd rfl hx) (fun hx => absurd rfl hx)
    (fun x hx => ⟨(h.suspends x (hmem x hx)).1, fun hsus => (h.suspends x (hmem x hx)).2 hsus hr⟩)
    fun x hx => h.deadlines x (hmem x hx)
  unfold Tracker.shape
  rcases hstate with ⟨e, hempty⟩ | ⟨e, hone⟩
  · rw [e]
    exact hempty
  · rw [e]
    exact hone

theorem Sound.suspendDone (h : t.Sound prof) (hf : (JobKind.tracker .suspend d).fits .operating prof t) :
    (t.suspendDone prof).Sound prof := by
  unfold Tracker.suspendDone
  split
  · next top rest hs hstack =>
    split
    · exact h
    · next hopen =>
      obtain ⟨hr, _⟩ | ⟨_, rec, hone, hcount⟩ := hf rfl
      · exact absurd (hs.symm.trans hr) nofun
      · rw [hstack, List.cons.injEq] at hone
        obtain ⟨rfl, rfl⟩ := hone
        have hnone : top.endStatus = none := by simpa [OpRecord.ending] using hopen
        obtain ⟨hbusy, hlt, _⟩ := h.deadlines top (by simp [hstack])
        refine h.of_working (hs ▸ TrackerState.working_running) TrackerState.working_suspending
          (by rfl) (by rfl) (by rfl) (by rfl)
          ⟨_, rfl, rfl, hnone⟩ nofun (fun _ => ⟨.inr rfl, nofun⟩) (fun _ => rfl) (fun x hx => ?_) fun x hx => ?_
        · rw [List.mem_singleton.mp hx]
          exact ⟨hcount.le, fun _ => hcount⟩
        · rw [List.mem_singleton.mp hx]
          exact ⟨hbusy, hlt, fun _ => ⟨hnone, nofun⟩⟩
  · exact h

theorem Sound.resumeDone (h : t.Sound prof) : (t.resumeDone prof).Sound prof := by
  unfold Tracker.resumeDone
  split
  · next top rest hs hstack =>
    obtain ⟨rec, hone, hsus, hopen⟩ := shape_of_suspended h.shape hs
    rw [hstack, List.cons.injEq] at hone
    obtain ⟨rfl, rfl⟩ := hone
    have hpoll := h.wantPoll_false (by simp [hs]) (by simp [hs])
    have hsettle := h.suspendSettle_none (by simp [hs])
    obtain ⟨hbusy, hlt, hdue⟩ := h.deadlines top (by simp [hstack])
    refine h.of_working (hs ▸ TrackerState.working_suspended) TrackerState.working_running
      (by rfl) (by rfl) (by rfl) (by rfl)
      (.inl ⟨_, rfl, rfl, hopen⟩) (fun _ => .inl rfl) (fun _ => ⟨.inl rfl, Bool.eq_false_iff.mp hpoll⟩)
      (fun hx => absurd hsettle hx) (fun x hx => ?_) fun x hx => ?_
    · rw [List.mem_singleton.mp hx]
      exact ⟨(h.suspends top (by simp [hstack])).1, nofun⟩
    · rw [List.mem_singleton.mp hx]
      exact ⟨hbusy, hlt, fun hx => absurd hsus (hdue hx).2⟩
  · exact h

/-- A RESET job's completion empties the stack and arms the settle timer of a tracker that wants no other (R63). -/
theorem Sound.emptied (h : t.Sound prof) (hs : t.state = .recovering) (hw : t.wantReset = false) (n : Nat) :
    ({ t with stack := [], resetSettle := some n } : Tracker).Sound prof :=
  ⟨(shape_recovering_iff (by exact hs)).mpr ⟨paired_nil, by simp⟩, h.poll, fun hx => absurd (hw.symm.trans hx) nofun,
    h.pollTimer, h.suspendSettle, fun _ => ⟨hs, rfl⟩, h.cause, h.offline, nofun, h.timeouts, nofun, h.faulted⟩

/-! ## Grants, expiries, aborts and PROFILE_WRITE -/

theorem Sound.granted (h : t.Sound prof) (j : TrackerJob) : (t.granted j).Sound prof := by
  cases j with
  | poll =>
    exact ⟨h.shape, nofun, h.reset, fun hx => ⟨(h.pollTimer hx).1, nofun⟩, h.suspendSettle, h.resetSettle, h.cause,
      h.offline, h.suspends, h.timeouts, h.deadlines, h.faulted⟩
  | suspend =>
    exact ⟨h.shape, h.poll, h.reset, h.pollTimer, h.suspendSettle, h.resetSettle, h.cause, h.offline, h.suspends,
      h.timeouts, h.deadlines, h.faulted⟩
  | resume =>
    exact ⟨h.shape, h.poll, h.reset, h.pollTimer, h.suspendSettle, h.resetSettle, h.cause, h.offline, h.suspends,
      h.timeouts, h.deadlines, h.faulted⟩
  | reset =>
    exact ⟨h.shape, h.poll, nofun, h.pollTimer, h.suspendSettle, h.resetSettle, h.cause, h.offline, h.suspends,
      h.timeouts, h.deadlines, h.faulted⟩

/-- The job of a tracker is wanted (R49). -/
def wants (t : Tracker) : TrackerJob → Bool
  | .poll => t.wantPoll
  | .suspend => t.wantSuspend
  | .resume => t.wantResume
  | .reset => t.wantReset

/-- A wanted job, once granted, finds its tracker as it must (R49, R56, R74, R86). -/
theorem fits_granted (h : t.Sound prof) (hwants : t.Wants prof) {j : TrackerJob} (hj : t.wants j = true) :
    (JobKind.tracker j d).fits part prof (t.granted j) := by
  cases j with
  | poll => exact ⟨rfl, not_not.mp fun hx => (h.pollTimer hx).2 hj⟩
  | suspend => exact fun _ => .inr (hwants.suspend hj)
  | resume => exact fun _ => .inr (hwants.resume hj).1
  | reset => exact ⟨(h.reset hj).1, (h.reset hj).2, fun _ => rfl⟩

/-- A request that its tracker admits, once granted, finds the tracker as it must (R83, R98, R99). -/
theorem fits_admitted (h : t.Sound prof) (ha : t.admits prof r = true) :
    (JobKind.request r m).fits part prof t := by
  intro _
  unfold admits at ha
  split at ha
  · next hs =>
    rw [shape_of_empty h.shape (.inl hs)]
    exact ⟨nofun, .inl hs⟩
  · next rec hs hstack =>
    obtain ⟨_, hone, hsus, _⟩ := shape_of_suspended h.shape hs
    rw [hstack, List.cons.injEq] at hone
    obtain ⟨rfl, _⟩ := hone
    have hbeside : rec.overlapsRequest r = false
        ∧ (r.work = .read ∨ rec.kind = .erase ∧ ∃ data, r.work = .program data) := by
      unfold runsBeside at ha
      split at ha
      · next hw => exact ⟨by simpa using ha, .inl hw⟩
      · next data hw hk => simp only [Bool.and_eq_true, Bool.not_eq_true'] at ha; exact ⟨ha.2, .inr ⟨hk, data, hw⟩⟩
      · cases ha
      · cases ha
    rw [hstack]
    exact ⟨fun x hx => List.mem_singleton.mp hx ▸ hbeside.1, .inr ⟨.inl hs, rec, rfl, hsus, hbeside.2⟩⟩
  · cases ha

/-- What a tracker is like while the reset pin is asserted (R183). -/
def held (t : Tracker) : Prop :=
  (t.state = .offline ∨ t.state = .recovering) ∧ t.wantReset = false ∧ t.resetSettle = none

/-- A held tracker wants no job. -/
theorem not_wants_of_held (h : t.Sound prof) (hwants : t.Wants prof) (hheld : t.held) (j : TrackerJob) :
    t.wants j = false := by
  obtain ⟨hs, hw, _⟩ := hheld
  have hn : t.state ≠ .running ∧ t.state ≠ .suspending ∧ t.state ≠ .suspended := by rcases hs with e | e <;> simp [e]
  cases j with
  | poll => exact h.wantPoll_false hn.1 hn.2.1
  | suspend => exact Bool.eq_false_iff.mpr fun e => hn.1 (hwants.suspend e).1
  | resume => exact Bool.eq_false_iff.mpr fun e => hn.2.2 (hwants.resume e).1
  | reset => exact hw

/-- A held tracker admits no request. -/
theorem not_admits_of_held (hheld : t.held) : t.admits prof r = false := by
  unfold admits
  rcases hheld.1 with e | e <;> simp [e]

/-- A poll timer that has run down makes its POLL wanted (R56). -/
theorem Sound.pollExpired (h : t.Sound prof) (ht : t.pollTimer = some 0) :
    ({ t with pollTimer := none, wantPoll := true } : Tracker).Sound prof :=
  ⟨h.shape, fun _ => (h.pollTimer (by simp [ht])).1, h.reset, fun hx => absurd rfl hx, h.suspendSettle, h.resetSettle,
    h.cause, h.offline, h.suspends, h.timeouts, h.deadlines, h.faulted⟩

/-- A job that is in progress when its tracker's poll timer expires is no POLL (R56). -/
theorem fits_pollExpired (h : k.fits part prof t) (ht : t.pollTimer = some 0) :
    k.fits part prof { t with pollTimer := none, wantPoll := true } := by
  cases k with
  | request r m => exact h
  | tracker k d =>
    cases k with
    | poll => exact absurd (h.2.symm.trans ht) nofun
    | suspend => exact h
    | resume => exact h
    | reset => exact h

theorem timeOut_stays {top top' : OpRecord} {rest : List OpRecord} (htop : top.Stays top') :
    StackStays (top :: rest) ({ top' with endStatus := some .timeout } :: rest) :=
  .cons ⟨htop.kind, htop.state, htop.start, htop.length, htop.suspendCount, htop.busy⟩
    (List.forall₂_same.mpr fun rec _ => .refl rec)

/-- The top record ends TIMEOUT (R60, R79). -/
theorem Sound.timeOut (h : t.Sound prof) {top top' : OpRecord} {rest : List OpRecord} (hstack : t.stack = top :: rest)
    (hopen : top.endStatus = none) (htop : top.Stays top') : (t.timeOut top' rest).Sound prof := by
  unfold Tracker.timeOut
  refine h.enter_recovery (rec := top) (by simp [hstack]) hopen ?_ ?_ ?_
  · rw [hstack]
    exact timeOut_stays htop
  · rfl
  · exact fun hlt => ⟨hlt, fun _ => rfl⟩

theorem fits_timeOut (h : t.Sound prof) (hk : k.fits part prof t) {top top' : OpRecord} {rest : List OpRecord}
    (hstack : t.stack = top :: rest) (hopen : top.endStatus = none) (htop : top.Stays top') :
    k.fits part prof (t.timeOut top' rest) := by
  unfold Tracker.timeOut
  refine fits_recover hk (active_of_open h.shape (rec := top) (by simp [hstack]) hopen) ?_ _
  rw [hstack]
  exact timeOut_stays htop

/-- The target of an ABORT has not ended (R171). -/
theorem exists_open {p : Port} {tag : Byte} (ht : t.stack.any fun rec => rec.isTarget p tag) :
    ∃ rec ∈ t.stack, rec.endStatus = none := by
  obtain ⟨rec, hrec, htarget⟩ := List.any_eq_true.mp ht
  simp only [OpRecord.isTarget, OpRecord.ending, Bool.and_eq_true, Bool.not_eq_true', Option.isSome_eq_false_iff,
    Option.isNone_iff_eq_none] at htarget
  exact ⟨rec, hrec, htarget.2⟩

/-- An op record of the stack is ended by an ABORT (R175). -/
theorem Sound.abortRecord (h : t.Sound prof) {p : Port} {tag : Byte}
    (ht : t.stack.any fun rec => rec.isTarget p tag) : (t.abortRecord p tag).Sound prof := by
  obtain ⟨rec, hrec, hopen⟩ := exists_open ht
  unfold Tracker.abortRecord
  refine h.enter_recovery hrec hopen ?_ ?_ ?_
  · exact stackStays_map (stays_abortIfTarget p tag) t.stack
  · rfl
  · exact fun hlt => ⟨hlt.le, fun e => absurd e hlt.ne⟩

theorem fits_abortRecord (h : t.Sound prof) (hk : k.fits part prof t) {p : Port} {tag : Byte}
    (ht : t.stack.any fun rec => rec.isTarget p tag) : k.fits part prof (t.abortRecord p tag) := by
  obtain ⟨rec, hrec, hopen⟩ := exists_open ht
  unfold Tracker.abortRecord
  exact fits_recover hk (active_of_open h.shape hrec hopen) (stackStays_map (stays_abortIfTarget p tag) t.stack) _

/-- A recovery that ends, in IDLE, or in FAULTED with the count at 3 and no request left (R64, R66). -/
theorem Sound.settled (h : t.Sound prof) (hs : t.state = .recovering) (ht : t.resetSettle ≠ none) {st : TrackerState}
    {n : Nat} (hst : st = .idle ∧ t.timeouts ≠ 3 ∨ st = .faulted ∧ t.timeouts = 3 ∧ n = 0) :
    ({ t.settled st with refCount := n } : Tracker).Sound prof := by
  obtain ⟨_, hempty⟩ := h.resetSettle ht
  have hstack : ({ t.settled st with refCount := n } : Tracker).stack = [] := hempty
  have hnone : ∀ rec, rec ∉ t.stack := fun rec => by simp [hempty]
  have hpresent := h.present (by simp [hs])
  refine ⟨?_, nofun, nofun, fun hx => absurd rfl hx, fun hx => absurd rfl hx, fun hx => absurd rfl hx,
    fun hx => absurd rfl hx, ?_, fun x hx => absurd hx (hnone x), ?_, fun x hx => absurd hx (hnone x), ?_⟩
  · rcases hst with ⟨rfl, _⟩ | ⟨rfl, _⟩ <;> exact hstack
  · rcases hst with ⟨rfl, _⟩ | ⟨rfl, _⟩ <;> exact ⟨nofun, fun hp => absurd (hpresent.symm.trans hp) nofun⟩
  · rcases hst with ⟨rfl, hne⟩ | ⟨rfl, he, _⟩
    · exact ⟨h.timeouts.1, fun e => absurd e hne, nofun⟩
    · exact ⟨h.timeouts.1, fun _ => .inr rfl, fun _ => he⟩
  · rcases hst with ⟨rfl, _⟩ | ⟨rfl, _, hn⟩
    · exact nofun
    · exact fun _ => hn

/-- No job but a POLL is in progress where a recovery ends, or only one that a reset sequence left to run (R100). -/
theorem fits_settled (h : t.Sound prof) (hk : k.fits part prof t) (hs : t.state = .recovering)
    (ht : t.resetSettle ≠ none)
    (st : TrackerState) (n : Nat) : k.fits part prof { t.settled st with refCount := n } := by
  have hw : t.wantReset ≠ true := fun e => ht (h.reset e).2
  cases k with
  | request r m =>
    intro hpart
    obtain ⟨_, e | ⟨e | e, _⟩⟩ := hk hpart
    · exact absurd (hs.symm.trans e) nofun
    · exact absurd (hs.symm.trans e) nofun
    · exact absurd e.2 hw
  | tracker k d =>
    cases k with
    | poll => exact ⟨rfl, rfl⟩
    | suspend =>
      exact fun hpart => (hk hpart).elim (fun e => absurd e.2 hw) fun e => absurd (hs.symm.trans e.1) nofun
    | resume => exact fun hpart => (hk hpart).elim (fun e => absurd e.2 hw) fun e => absurd (hs.symm.trans e) nofun
    | reset => exact absurd hk.2.1 ht

/-- A tracker at rest takes a new profile (R36). -/
theorem Sound.reprofiled (h : t.Sound prof) (hb : t.state.busy = false) (hr : t.refCount = 0) (prof' : Profile) :
    (t.reprofiled prof').Sound prof' := by
  have hst := not_busy_iff.mp hb
  simp only [List.mem_cons, List.not_mem_nil, or_false] at hst
  have hempty := shape_of_empty h.shape (by tauto)
  have hnone : ∀ rec, rec ∉ t.stack := fun rec => by simp [hempty]
  have hn : t.state ≠ .recovering ∧ t.state ≠ .running ∧ t.state ≠ .suspending := by
    rcases hst with e | e | e <;> simp [e]
  have hnew : (t.reprofiled prof').state = .idle ∧ prof'.present = true
      ∨ (t.reprofiled prof').state = .offline ∧ prof'.present = false := by
    cases hp : prof'.present <;> simp [Tracker.reprofiled, hp]
  refine ⟨?_, fun hx => absurd (h.poll hx) (by simp [hn]), fun hx => absurd (h.reset hx).1 hn.1,
    fun hx => absurd rfl hx, fun hx => absurd rfl hx, fun hx => absurd rfl hx,
    fun hx => absurd (h.cause_none hn.1) hx, ?_,
    fun x hx => absurd hx (hnone x), ⟨Nat.zero_le _, nofun, ?_⟩, fun x hx => absurd hx (hnone x), fun _ => hr⟩
  · unfold Tracker.shape
    rcases hnew with ⟨e, _⟩ | ⟨e, _⟩ <;> rw [e] <;> exact hempty
  · rcases hnew with ⟨e, hp⟩ | ⟨e, hp⟩ <;> simp [e, hp]
  · rcases hnew with ⟨e, _⟩ | ⟨e, _⟩ <;> simp [e]

theorem Wants.reprofiled (h : t.Wants prof) (hb : t.state.busy = false) (prof' : Profile) :
    (t.reprofiled prof').Wants prof' :=
  ⟨fun hx => absurd hb (by rw [(h.suspend hx).1]; decide), fun hx => absurd hb (by rw [(h.resume hx).1]; decide)⟩

/-- No job but a POLL finds a tracker at rest, other than a request, in operation (R36, R100). -/
theorem fits_reprofiled (hk : k.fits .operating prof t) (hb : t.state.busy = false)
    (hr : ∀ r m, k ≠ .request r m) (prof' : Profile) : k.fits .operating prof' (t.reprofiled prof') := by
  have hn : t.state ≠ .recovering ∧ t.state ≠ .running ∧ t.state ≠ .suspended := by
    refine ⟨?_, ?_, ?_⟩ <;> intro e <;> rw [e] at hb <;> cases hb
  cases k with
  | request r m => exact absurd rfl (hr r m)
  | tracker k d =>
    cases k with
    | poll => exact ⟨hk.1, rfl⟩
    | suspend => exact ((hk rfl).elim (fun e => absurd e.1 hn.1) fun e => absurd e.1 hn.2.1)
    | resume => exact ((hk rfl).elim (fun e => absurd e.1 hn.1) fun e => absurd e hn.2.2)
    | reset => exact absurd hk.1 hn.1

end Tracker

end Sys2Proof.Machine
end

section
/-! SUPPORT. The laws of the trackers on the whole state: what keeps them, and what each command does to them. -/

namespace Sys2Proof.Machine

/-- The laws of the trackers within an event, before the wants of SUSPEND and RESUME are set afresh. -/
structure State.Sound (s : State) : Prop where
  trackers : ∀ d, (s.tracker d).Sound (s.profile d)
  job : JobLaw s
  pin : PinLaw s

/-- The laws of the trackers between events, apart from the ledger. -/
structure State.Tracked (s : State) : Prop extends State.Sound s where
  wants : ∀ d, (s.tracker d).Wants (s.profile d)

/-- An update that leaves the trackers but for reference counts that fall, and what their laws look at. -/
structure State.Kept (s t : State) : Prop where
  power : t.power = s.power
  resetPin : t.resetPin = s.resetPin
  part : t.part = s.part
  clearStep : t.clearStep = s.clearStep
  profiles : t.profiles = s.profiles
  job : t.job = s.job
  trackers : ∀ d, ∃ n ≤ (s.tracker d).refCount, t.tracker d = { s.tracker d with refCount := n }

namespace State

variable {s t u : State} {d : Device}

/-! ## The ledger's share: requests that are owed to a device -/

/-- A device without references is owed nothing (R52). -/
theorem Ledger.not_owed {held : List Port} (h : s.Ledger held) (hd : (s.tracker d).refCount = 0) {o : Owed}
    (ho : o ∈ s.owed) : o.device ≠ d := by
  have hc := h.tally.refCounts d
  rw [hd, eq_comm, List.countP_eq_zero] at hc
  simpa using hc o ho

theorem mem_owed_of_queue {p : Port} {r : Request} (hr : r ∈ s.queue p) : r.owed ∈ s.owed := by
  have := List.mem_map_of_mem (f := Request.owed) hr
  cases p <;> simp [owed, this]

theorem mem_owed_of_flight {r : Request} (hr : r ∈ s.flight) : r.owed ∈ s.owed := by
  have := List.mem_map_of_mem (f := Request.owed) hr
  simp [owed, this]

/-- A device whose requests are neither waiting nor in flight nor on its stack has no references (R52, R66). -/
theorem Ledger.refCount_zero {held : List Port} (h : s.Ledger held) (hq : ∀ p, ∀ r ∈ s.queue p, r.device ≠ d)
    (hf : ∀ r ∈ s.flight, r.device ≠ d) (hs : (s.tracker d).stack = []) : (s.tracker d).refCount = 0 := by
  rw [h.tally.refCounts d, List.countP_eq_zero]
  intro o ho
  simp only [owed, List.mem_append, List.mem_map, List.mem_flatMap] at ho
  rw [decide_eq_true_eq]
  obtain ((⟨r, hr, rfl⟩ | ⟨r, hr, rfl⟩) | ⟨r, hr, rfl⟩) | ⟨e, _, rec, hrec, rfl⟩ := ho
  · exact hq .A r hr
  · exact hq .B r hr
  · exact hf r hr
  · rintro (rfl : e = d)
    rw [hs] at hrec
    cases hrec

/-! ## Updates that keep the trackers -/

theorem Kept.of_eq (hpower : t.power = s.power) (hpin : t.resetPin = s.resetPin) (hpart : t.part = s.part)
    (hclear : t.clearStep = s.clearStep) (hprofiles : t.profiles = s.profiles) (hjob : t.job = s.job)
    (htrackers : t.trackers = s.trackers) : s.Kept t where
  power := hpower
  resetPin := hpin
  part := hpart
  clearStep := hclear
  profiles := hprofiles
  job := hjob
  trackers d := ⟨_, le_rfl, by simp only [tracker, htrackers]⟩

theorem Kept.refl (s : State) : s.Kept s := .of_eq rfl rfl rfl rfl rfl rfl rfl

theorem Kept.trans (h : s.Kept t) (h' : t.Kept u) : s.Kept u where
  power := h'.power.trans h.power
  resetPin := h'.resetPin.trans h.resetPin
  part := h'.part.trans h.part
  clearStep := h'.clearStep.trans h.clearStep
  profiles := h'.profiles.trans h.profiles
  job := h'.job.trans h.job
  trackers d := by
    obtain ⟨n, hn, e⟩ := h.trackers d
    obtain ⟨n', hn', e'⟩ := h'.trackers d
    rw [e] at hn' e'
    exact ⟨n', hn'.trans hn, e'⟩

theorem Kept.profile (h : s.Kept t) (d : Device) : t.profile d = s.profile d := by
  rw [State.profile, State.profile, h.profiles]

theorem fits_of_refCount {part : PartState} {prof : Profile} {v : Tracker} {k : JobKind} (h : k.fits part prof v)
    (n : Nat) : k.fits part prof { v with refCount := n } := by
  cases k with
  | request r m => exact h
  | tracker k d => cases k <;> exact h

theorem Sound.kept (hs : s.Sound) (h : s.Kept t) : t.Sound where
  trackers d := by
    obtain ⟨n, hn, e⟩ := h.trackers d
    rw [e, h.profile]
    exact (hs.trackers d).lowerRef hn
  job j hj := by
    have hmeets := meets_iff.mp (hs.job j (h.job ▸ hj))
    obtain ⟨n, _, e⟩ := h.trackers j.kind.device
    rw [meets_iff, e, h.profile, h.part]
    exact fits_of_refCount hmeets n
  pin hp hr := by
    obtain ⟨hpart, hclear, hjob, htrackers⟩ := hs.pin (h.power ▸ hp) (h.resetPin ▸ hr)
    refine ⟨h.part.trans hpart, h.clearStep.trans hclear, h.job.trans hjob, fun d => ?_⟩
    obtain ⟨n, _, e⟩ := h.trackers d
    rw [e]
    exact htrackers d

theorem Tracked.kept (hs : s.Tracked) (h : s.Kept t) : t.Tracked where
  toSound := hs.toSound.kept h
  wants d := by
    obtain ⟨n, _, e⟩ := h.trackers d
    rw [e, h.profile]
    exact ⟨(hs.wants d).suspend, (hs.wants d).resume⟩

theorem kept_answer (p : Port) (m : Message) (w : WindowNo) (e : Device) : s.Kept (s.answer p m w e) := by
  have hf := s.answer_frame p m w e
  refine ⟨by rw [hf], by rw [hf], by rw [hf], by rw [hf], by rw [hf], by rw [hf], fun d => ?_⟩
  rw [answer_tracker]
  split
  · next x => exact ⟨_, Nat.sub_le _ 1, by rw [x]⟩
  · exact ⟨_, le_rfl, rfl⟩

theorem kept_answerAll (e : Device) (l : List OpRecord) : s.Kept (s.answerAll e l) := by
  induction l generalizing s with
  | nil => exact .refl s
  | cons rec l ih => exact (kept_answer ..).trans ih

theorem kept_answerFaults (l : List Request) : s.Kept (s.answerFaults l) := by
  induction l generalizing s with
  | nil => exact .refl s
  | cons r l ih => exact (kept_answer ..).trans ih

theorem kept_drain (e : Device) (p : Port) : s.Kept (s.drain e p) :=
  (Kept.of_eq rfl rfl rfl rfl rfl rfl rfl : s.Kept (s.setQueue p _)).trans (kept_answerFaults _)

theorem drain_queue (e : Device) (p q : Port) :
    (s.drain e p).queue q = if q = p then (s.queue p).filter fun r => r.device != e else s.queue q := by
  rw [drain, (unmoved_answerFaults _).queue, queue_setQueue]

theorem kept_reply (p : Port) (k : RequestKind) (tag : Byte) (st : Status) (data : ResponseData) :
    s.Kept (s.reply p k tag st data) := .of_eq rfl rfl rfl rfl rfl rfl rfl

theorem Tracked.reply (h : s.Tracked) (p : Port) (k : RequestKind) (tag : Byte) (st : Status) (data : ResponseData) :
    (s.reply p k tag st data).Tracked := h.kept (kept_reply ..)

/-! ## The close of an event (R74, R86) -/

/-- A suspend candidate stands before a RUNNING tracker with one record below its suspend limit (R73). -/
theorem hasCandidate_running (h : s.hasCandidate d = true) : (s.tracker d).state = .running
    ∧ ∃ rec, (s.tracker d).stack = [rec] ∧ rec.suspendCount < (s.profile d).suspendLimit := by
  have hone : ∃ r, s.candidate d r = true := by
    simp only [hasCandidate, Bool.or_eq_true, List.any_eq_true] at h
    obtain ⟨r, _, hr⟩ | ⟨r, _, hr⟩ := h <;> exact ⟨r, hr⟩
  obtain ⟨r, hr⟩ := hone
  unfold candidate at hr
  rw [Bool.and_eq_true] at hr
  obtain ⟨_, hr⟩ := hr
  split at hr
  · next rec hs hstack =>
    simp only [Bool.and_eq_true, decide_eq_true_eq] at hr
    exact ⟨hs, rec, hstack, hr.2⟩
  · cases hr

/-- The wants of SUSPEND and RESUME as the close of an event sets them (R74, R86, R87). -/
theorem rewant_wants (s : State) (d : Device) : (s.rewant d (s.tracker d)).Wants (s.profile d) where
  suspend h := by
    simp only [rewant, Bool.and_eq_true] at h
    exact hasCandidate_running h.1.2
  resume h := by
    simp only [rewant, Bool.and_eq_true, beq_iff_eq] at h
    exact h.1

theorem fits_rewant {part : PartState} {prof : Profile} {v : Tracker} {k : JobKind} (h : k.fits part prof v)
    (d : Device) : k.fits part prof (s.rewant d v) := by
  cases k with
  | request r m => exact h
  | tracker k d => cases k <;> exact h

theorem Sound.reconsider (h : s.Sound) : s.reconsider.Tracked where
  trackers d := by
    rw [reconsider_tracker]
    exact (h.trackers d).rewant s d
  job j hj := by
    have hmeets := meets_iff.mp (h.job j hj)
    rw [meets_iff, reconsider_tracker]
    exact fits_rewant hmeets _
  pin hp hr := by
    obtain ⟨hpart, hclear, hjob, htrackers⟩ := h.pin hp hr
    refine ⟨hpart, hclear, hjob, fun d => ?_⟩
    rw [reconsider_tracker]
    exact htrackers d
  wants d := by
    rw [reconsider_tracker]
    exact s.rewant_wants d

theorem Sound.close (h : s.Sound) : s.close.Tracked :=
  h.reconsider.kept (.of_eq rfl rfl rfl rfl rfl rfl rfl)

/-! ## One tracker, or the job in progress, replaced -/

/-- In operation the reset pin is not asserted (R183). -/
theorem PinLaw.of_operating (hpart : s.part = .operating) (h : PinLaw s) (hpart' : t.power = s.power)
    (hpin : t.resetPin = s.resetPin) : PinLaw t := fun hp hr =>
  absurd (hpart.symm.trans (h (hpart' ▸ hp) (hpin ▸ hr)).1) nofun

/-- With a job in progress the reset pin is not asserted (R183). -/
theorem Sound.unpinned_of_job (h : s.Sound) {j : Job} (hj : s.job = some j) :
    ¬ (s.power = .on ∧ s.resetPin = true) := fun ⟨hp, hr⟩ =>
  absurd (hj.symm.trans (h.pin hp hr).2.2.1) nofun

theorem Sound.unpinned_of_operating (h : s.Sound) (hpart : s.part = .operating) :
    ¬ (s.power = .on ∧ s.resetPin = true) := fun ⟨hp, hr⟩ => absurd (hpart.symm.trans (h.pin hp hr).1) nofun

/-- While a tracker is not held, the reset pin is not asserted (R183). -/
theorem Sound.unpinned_of_not_held (h : s.Sound) (hd : ¬ (s.tracker d).held) :
    ¬ (s.power = .on ∧ s.resetPin = true) := fun ⟨hp, hr⟩ => hd ((h.pin hp hr).2.2.2 d)

theorem Sound.fits (h : s.Sound) {j : Job} (hj : s.job = some j) :
    j.kind.fits s.part (s.profile j.kind.device) (s.tracker j.kind.device) := meets_iff.mp (h.job j hj)

/-- A tracker replaced by one that meets the laws, with the job in progress on it. -/
theorem Sound.setTracker (h : s.Sound) {v : Tracker} (hv : v.Sound (s.profile d))
    (hjob : ∀ j, s.job = some j → j.kind.device = d → j.kind.fits s.part (s.profile d) (s.tracker d) →
      j.kind.fits s.part (s.profile d) v)
    (hpin : s.power = .on ∧ s.resetPin = true → v.held) : (s.setTracker d v).Sound where
  trackers e := by
    rw [tracker_setTracker]
    split
    · next x => exact x ▸ hv
    · exact h.trackers e
  job j hj := by
    have hfits := h.fits hj
    rw [meets_iff, tracker_setTracker]
    split
    · next x =>
      rw [x] at hfits
      rw [setTracker_profile, x]
      exact hjob j hj x hfits
    · exact hfits
  pin hp hr := by
    obtain ⟨hpart, hclear, hj, htrackers⟩ := h.pin hp hr
    refine ⟨hpart, hclear, hj, fun e => ?_⟩
    rw [tracker_setTracker]
    split
    · exact hpin ⟨hp, hr⟩
    · exact htrackers e

theorem Tracked.setTracker (h : s.Tracked) {v : Tracker} (hv : (s.setTracker d v).Sound)
    (hw : v.Wants (s.profile d)) : (s.setTracker d v).Tracked where
  toSound := hv
  wants e := by
    rw [tracker_setTracker]
    split
    · next x => exact x ▸ hw
    · exact h.wants e

/-- The bus is free. -/
theorem Sound.setJob_none (h : s.Sound) : (s.setJob none).Sound where
  trackers := h.trackers
  job := nofun
  pin hp hr := ⟨(h.pin hp hr).1, (h.pin hp hr).2.1, rfl, (h.pin hp hr).2.2.2⟩

theorem Tracked.setJob_none (h : s.Tracked) : (s.setJob none).Tracked := ⟨h.toSound.setJob_none, h.wants⟩

/-- A tracker's job has completed: the bus is free, and the tracker is replaced. -/
theorem Sound.completed (h : s.Sound) {j : Job} (hj : s.job = some j) {v : Tracker} (hv : v.Sound (s.profile d)) :
    ((s.setJob none).setTracker d v).Sound :=
  h.setJob_none.setTracker hv (fun _ hx => nomatch hx) fun hp => absurd hp (h.unpinned_of_job hj)

/-- A job comes to be in progress. -/
theorem Sound.setJob_some (h : s.Sound) {j : Job}
    (hj : j.kind.fits s.part (s.profile j.kind.device) (s.tracker j.kind.device))
    (hp : ¬ (s.power = .on ∧ s.resetPin = true)) : (s.setJob (some j)).Sound where
  trackers := h.trackers
  job x hx := by
    cases hx
    exact meets_iff.mpr hj
  pin hon hr := absurd ⟨hon, hr⟩ hp

/-! ## Requests -/

theorem Tracked.accept (h : s.Tracked) (p : Port) : (s.accept p).Tracked :=
  h.kept (.of_eq rfl rfl rfl rfl rfl rfl rfl)

theorem Tracked.writeReceipt (h : s.Tracked) (p : Port) (tag : Byte) (c : ReceiptCode) :
    (s.writeReceipt p tag c).Tracked :=
  h.kept (.of_eq rfl rfl rfl rfl rfl rfl rfl)

theorem Tracked.intake {p : Port} {tag : Byte} {g : Group} {f : State → State} (hl : s.Ledger []) (h : s.Tracked)
    (hf : ∀ s' : State, s'.part = .operating → s'.Ledger [p] → s'.Tracked → (f s').Tracked) :
    (s.intake p tag g f).Tracked := by
  obtain ⟨_, e⟩ | ⟨hv, e⟩ := s.intake_cases p tag g f
  · rw [e]
    exact h.writeReceipt ..
  · rw [e]
    obtain ⟨hpart, _⟩ := (s.accepted_iff p tag g).mp hv
    exact (hf (s.accept p) hpart (hl.accept hpart p) (h.accept p)).writeReceipt ..

theorem kept_refuse (p : Port) (tag : Byte) (k : RequestKind) (st : Status) (w : Option WindowNo) :
    s.Kept (s.refuse p tag k st w) := by
  unfold refuse raiseDenialNotice
  dsimp only
  split
  · split <;> exact .of_eq rfl rfl rfl rfl rfl rfl rfl
  · exact .of_eq rfl rfl rfl rfl rfl rfl rfl

/-- A translated request is for a device that is not FAULTED (R13). -/
theorem translate_inService {p : Port} {tag : Byte} {a : Word} {ask : Ask} {r : Request}
    (h : s.translate p tag a ask = .translated r) : (s.tracker r.device).state ≠ .faulted := by
  unfold translate at h
  split at h
  · cases h
  · dsimp only at h
    split at h
    · cases h
    split at h
    · cases h
    split at h
    · cases h
    split at h
    · cases h
    split at h
    · cases h
    next hf =>
      repeat' split at h
      all_goals cases h
      exact hf

theorem check_inService {p : Port} {tag : Byte} {a : Word} {ask : Ask} {r : Request}
    (h : s.check p tag a ask = .translated r) : (s.tracker r.device).state ≠ .faulted := by
  unfold check at h
  split at h
  · exact translate_inService h
  · cases h

/-- A translated request raises the reference count of a device in service (R17, R66). -/
theorem Sound.enqueue (h : s.Sound) {r : Request} (hr : (s.tracker r.device).state ≠ .faulted) :
    (s.enqueue r).Sound := by
  have ht := h.trackers r.device
  have h₁ : (s.setTracker r.device
      { s.tracker r.device with refCount := (s.tracker r.device).refCount + 1 }).Sound :=
    h.setTracker ⟨ht.shape, ht.poll, ht.reset, ht.pollTimer, ht.suspendSettle, ht.resetSettle, ht.cause, ht.offline,
      ht.suspends, ht.timeouts, ht.deadlines, fun e => absurd e hr⟩ (fun _ _ _ hk => fits_of_refCount hk _)
      fun ⟨hp, hx⟩ => (h.pin hp hx).2.2.2 r.device
  exact h₁.kept (.of_eq rfl rfl rfl rfl rfl rfl rfl)

theorem Tracked.memoryRequest (h : s.Tracked) (p : Port) (tag : Byte) (a : Word) (ask : Ask) :
    (s.memoryRequest p tag a ask).Tracked := by
  unfold State.memoryRequest
  split
  · exact (h.toSound.kept (kept_refuse ..)).close
  · next r hr => exact (h.toSound.enqueue (check_inService hr)).close

theorem Tracked.windowWriteDo (h : s.Tracked) (p : Port) (tag : Byte) (n : Word) (r : WindowRecord) :
    (s.windowWriteDo p tag n r).Tracked := by
  unfold State.windowWriteDo
  split
  · exact h.reply ..
  · exact h.kept (.of_eq rfl rfl rfl rfl rfl rfl rfl)

theorem Tracked.windowReadDo (h : s.Tracked) (p : Port) (tag : Byte) (n : Word) :
    (s.windowReadDo p tag n).Tracked := by
  unfold State.windowReadDo
  split
  · exact h.reply ..
  · split <;> exact h.reply ..

theorem Tracked.swapDo (h : s.Tracked) (p : Port) (tag : Byte) (n : Word) : (s.swapDo p tag n).Tracked := by
  unfold State.swapDo
  split
  · exact h.reply ..
  · dsimp only
    split <;> exact h.kept (.of_eq rfl rfl rfl rfl rfl rfl rfl)

/-- PROFILE_WRITE passes its checks (R35). -/
theorem profileWriteCheck_inr {p : Port} {n : Word} {r : ProfileRecord}
    (h : s.profileWriteCheck p n r = .inr d) : (s.tracker d).state.busy = false ∧ (s.tracker d).refCount = 0 := by
  unfold profileWriteCheck at h
  split at h
  · cases h
  split at h
  · cases h
  split at h
  · cases h
  next e _ =>
    split at h
    · cases h
    next hb =>
      split at h
      · cases h
      · cases h
        simpa using hb

theorem Tracked.profileWriteDo {p : Port} (hpart : s.part = .operating) (hl : s.Ledger [p]) (h : s.Tracked)
    (tag : Byte) (n : Word) (r : ProfileRecord) : (s.profileWriteDo p tag n r).Tracked := by
  unfold State.profileWriteDo
  split
  · exact h.reply ..
  · next d hd =>
    obtain ⟨hb, hr⟩ := profileWriteCheck_inr hd
    refine Tracked.reply ⟨⟨fun e => ?_, fun j hj => ?_, ?_⟩, fun e => ?_⟩ ..
    · rw [tracker_setTracker, setTracker_profile, profile_setProfile]
      split
      · exact (h.trackers d).reprofiled hb hr _
      · exact h.trackers e
    · have hfits : j.kind.fits s.part _ _ := h.toSound.fits hj
      rw [meets_iff, tracker_setTracker, setTracker_profile, profile_setProfile]
      rw [setTracker_part]
      split
      · next e =>
        rw [e] at hfits
        have hp : ((s.setProfile d r.toProfile).part) = .operating := hpart
        rw [hp]
        rw [hpart] at hfits
        refine Tracker.fits_reprofiled hfits hb (fun x m hx => ?_) _
        have hx' : x ∈ s.flight := by
          obtain ⟨kind, sel⟩ := j
          rw [flight_of_request hpart (r := x) (m := m) (l := sel) (hj.trans (by rw [show kind = _ from hx]))]
          exact List.mem_singleton_self x
        rw [hx] at e
        exact hl.not_owed hr (mem_owed_of_flight hx') e
      · exact hfits
    · exact PinLaw.of_operating hpart h.pin rfl rfl
    · rw [tracker_setTracker, setTracker_profile, profile_setProfile]
      split
      · exact (h.wants d).reprofiled hb _
      · exact h.wants e

theorem Tracked.profileReadDo (h : s.Tracked) (p : Port) (tag : Byte) (n : Word) :
    (s.profileReadDo p tag n).Tracked := by
  unfold State.profileReadDo
  split <;> exact h.reply ..

theorem Tracked.freezeDo (h : s.Tracked) (p : Port) (tag : Byte) : (s.freezeDo p tag).Tracked := by
  unfold State.freezeDo
  split
  · exact h.reply ..
  · split
    · exact h.reply ..
    · exact h.kept (.of_eq rfl rfl rfl rfl rfl rfl rfl)

theorem Tracked.handoverDo (h : s.Tracked) (p : Port) (tag : Byte) : (s.handoverDo p tag).Tracked := by
  unfold State.handoverDo
  split
  · exact h.reply ..
  · split
    · exact h.reply ..
    · exact Sound.close (h.toSound.kept (.of_eq rfl rfl rfl rfl rfl rfl rfl))

theorem Tracked.statusReadDo (h : s.Tracked) (p : Port) (tag : Byte) (c : Bool) :
    (s.statusReadDo p tag c).Tracked := by
  unfold State.statusReadDo
  split
  · exact h.reply ..
  · cases c
    · exact h.reply ..
    · exact h.kept (.of_eq rfl rfl rfl rfl rfl rfl rfl)

/-! ## ABORT (R171 to R175) -/

/-- The target that is an op record stands on the stack of its device (R171). -/
theorem findTarget_record {p : Port} {tag : Byte} (h : s.findTarget p tag = .record d) :
    (s.tracker d).stack.any fun rec => rec.isTarget p tag := by
  unfold findTarget at h
  split at h
  · cases h
  · split at h
    · cases h
    · split at h
      · next hx =>
        cases h
        exact List.find?_some (p := fun d => (s.tracker d).stack.any fun rec => rec.isTarget p tag) hx
      · cases h

/-- The abort mark is no part of what a job finds on its tracker. -/
theorem Sound.mark (h : s.Sound) : (s.setJob (s.job.map Job.mark)).Sound where
  trackers := h.trackers
  job j hj := by
    obtain ⟨x, hx, rfl⟩ := Option.map_eq_some_iff.mp hj
    have hmeets := h.job x hx
    obtain ⟨kind, sel⟩ := x
    cases kind with
    | request r m => exact hmeets
    | tracker k d => cases k <;> exact hmeets
  pin hp hr := by
    obtain ⟨hpart, hclear, hj, htrackers⟩ := h.pin hp hr
    exact ⟨hpart, hclear, by rw [hj]; rfl, htrackers⟩

theorem Sound.abortTarget (h : s.Sound) (hpart : s.part = .operating) {p : Port} {tag : Byte} {target : Target}
    (ht : s.findTarget p tag = target) : (s.abortTarget p tag target).Sound := by
  cases target with
  | notFound => exact h
  | waiting r =>
    have hleave : s.Kept (s.setQueue p ((s.queue p).erase r)) := .of_eq rfl rfl rfl rfl rfl rfl rfl
    exact h.kept (hleave.trans (kept_answer ..))
  | inJob r => exact h.mark
  | record d =>
    have hrec := findTarget_record ht
    exact h.setTracker ((h.trackers d).abortRecord hrec)
      (fun _ _ _ hk => Tracker.fits_abortRecord (h.trackers d) hk hrec)
      fun hp => absurd hp (h.unpinned_of_operating hpart)

theorem Tracked.abortDo (hpart : s.part = .operating) (h : s.Tracked) (p : Port) (tag : Byte) (q : Port) (v : Byte) :
    (s.abortDo p tag q v).Tracked := by
  unfold State.abortDo
  split
  · exact h.reply ..
  split
  · exact h.reply ..
  · exact Sound.close ((h.toSound.abortTarget hpart rfl).kept (.of_eq rfl rfl rfl rfl rfl rfl rfl))

/-! ## Reset sequences and power (R68, R178, R180, R182, R183, R185) -/

theorem Tracked.warmBegin (hpart : s.part = .operating) (h : s.Tracked) : s.warmBegin.Tracked where
  trackers d := by
    rw [warmBegin_tracker]
    exact warm_sound (h.trackers d)
  job j hj := by
    have hfits := h.toSound.fits hj
    rw [hpart] at hfits
    rw [meets_iff, warmBegin_tracker]
    exact Tracker.fits_warm hfits
  pin := PinLaw.of_operating hpart h.pin rfl rfl
  wants d := by
    obtain ⟨st, want, e⟩ := warm_eq (s.tracker d)
    rw [warmBegin_tracker, e]
    exact takenOver_wants ..

theorem Tracked.pinBegin (h : s.Tracked) : s.pinBegin.Tracked where
  trackers d := by
    rw [pinBegin_tracker]
    exact pinned_sound (h.trackers d)
  job := nofun
  pin _ _ := by
    refine ⟨rfl, rfl, rfl, fun d => ?_⟩
    rw [pinBegin_tracker]
    unfold Tracker.pinned
    split
    · exact ⟨.inr rfl, rfl, rfl⟩
    · next hp => exact ⟨.inl ((h.trackers d).offline.mpr (Bool.eq_false_iff.mpr hp)), rfl, rfl⟩
  wants d := by
    obtain ⟨st, e⟩ := pinned_eq (s.tracker d) (s.profile d)
    rw [pinBegin_tracker, e]
    exact takenOver_wants ..

theorem Tracked.warmResetDo (hpart : s.part = .operating) (h : s.Tracked) (p : Port) (tag : Byte) (e : Half) :
    (s.warmResetDo p tag e).Tracked := by
  unfold State.warmResetDo
  split
  · exact h.reply ..
  · split
    · exact h.reply ..
    · exact h.warmBegin hpart

/-- A part whose bus is free and whose pin is released has only the laws of its trackers to meet. -/
theorem Tracked.of_free (htrackers : t.trackers = s.trackers) (hprofiles : t.profiles = s.profiles)
    (hjob : t.job = none) (hpin : t.resetPin = false) (h : s.Tracked) : t.Tracked where
  trackers d := by
    have := h.trackers d
    simpa only [tracker, profile, htrackers, hprofiles] using this
  job j hj := absurd (hjob.symm.trans hj) nofun
  pin _ hr := absurd (hpin.symm.trans hr) nofun
  wants d := by
    have := h.wants d
    simpa only [tracker, profile, htrackers, hprofiles] using this

theorem Tracked.clear (h : s.Tracked) (hp : s.resetPin = false) : s.clear.Tracked where
  trackers := h.trackers
  job := h.job
  pin _ hr := absurd (hp.symm.trans hr) nofun
  wants := h.wants

/-- The release of the pin: every RECOVERING tracker, its settle timer disarmed, comes to want a RESET (R183). -/
theorem Tracked.pinRelease (h : s.Tracked) (hp : s.power = .on) (hr : s.resetPin = true) : s.pinRelease.Tracked := by
  obtain ⟨_, _, hjob, hheld⟩ := h.pin hp hr
  have ht : ∀ d, s.pinRelease.tracker d = (s.tracker d).released := fun d => by simp [State.pinRelease, tracker]
  refine ⟨⟨fun d => ?_, fun j hj => absurd (hjob.symm.trans hj) nofun, fun _ hx => nomatch hx⟩, fun d => ?_⟩
  · have hd := h.trackers d
    rw [ht]
    refine ⟨hd.shape, hd.poll, fun hw => ?_, hd.pollTimer, hd.suspendSettle, hd.resetSettle, hd.cause, hd.offline,
      hd.suspends, hd.timeouts, hd.deadlines, hd.faulted⟩
    obtain ⟨_, hn, hsettle⟩ := hheld d
    rw [Tracker.released, hn] at hw
    exact ⟨beq_iff_eq.mp hw, hsettle⟩
  · rw [ht]
    exact ⟨(h.wants d).suspend, (h.wants d).resume⟩

theorem Tracked.sequenceEnd (h : s.Tracked) (he : s.sequenceMayEnd = true) : s.sequenceEnd.Tracked := by
  simp only [sequenceMayEnd, Bool.and_eq_true, beq_iff_eq, Option.isNone_iff_eq_none] at he
  obtain ⟨⟨⟨⟨hpower, _⟩, hclear⟩, hjob⟩, _⟩ := he
  have hpin : s.resetPin = false :=
    Bool.eq_false_iff.mpr fun hr => absurd (hclear.symm.trans (h.pin hpower hr).2.1) nofun
  exact .of_free (s := s) rfl rfl hjob hpin h

theorem Tracked.coldEnd (hl : s.Ledger []) (h : s.Tracked) (hp : s.power ≠ .on) : s.coldEnd.Tracked :=
  .of_free (s := s) rfl rfl (hl.cold hp).2.1 rfl h

theorem cold_tracked (power : Power) (hp : power ≠ .on) (pin a b : Bool) (l : List Instr) (n : Nat) :
    (State.cold power pin a b l n).Tracked where
  trackers d := by
    have hprof : (State.cold power pin a b l n).profile d = .absent := by simp [cold, profile]
    rw [cold_tracker, hprof]
    exact takenOver_sound (st := .offline) (want := false) (.inl rfl) nofun ⟨fun _ => rfl, fun _ => rfl⟩
  job := nofun
  pin h := absurd h hp
  wants d := by
    rw [cold_tracker]
    exact takenOver_wants _ .offline false

/-! ## Frames -/

theorem Tracked.handRequest (hl : s.Ledger []) (h : s.Tracked) (p : Port) (tag : Byte) (r : FrameRequest) :
    (s.handRequest p tag r).Tracked := by
  cases r with
  | null | unknown => exact h.intake hl fun _ _ _ h' => h'
  | read | program | erase => exact h.intake hl fun _ _ _ h' => h'.memoryRequest ..
  | windowWrite w r => exact h.intake hl fun _ _ _ h' => h'.windowWriteDo ..
  | windowRead w => exact h.intake hl fun _ _ _ h' => h'.windowReadDo ..
  | profileWrite d r => exact h.intake hl fun _ hpart hl' h' => h'.profileWriteDo hpart hl' ..
  | profileRead d => exact h.intake hl fun _ _ _ h' => h'.profileReadDo ..
  | swap w => exact h.intake hl fun _ _ _ h' => h'.swapDo ..
  | freeze => exact h.intake hl fun _ _ _ h' => h'.freezeDo ..
  | handover => exact h.intake hl fun _ _ _ h' => h'.handoverDo ..
  | statusRead c => exact h.intake hl fun _ _ _ h' => h'.statusReadDo ..
  | abort q t => exact h.intake hl fun _ hpart _ h' => h'.abortDo hpart ..
  | warmReset e => exact h.intake hl fun _ hpart _ h' => h'.warmResetDo hpart ..

theorem kept_removal (p : Port) (f : Frame) : s.Kept (s.removal p f) := by
  unfold removal
  split <;> exact .of_eq rfl rfl rfl rfl rfl rfl rfl

theorem Tracked.frameEnd (hl : s.Ledger []) (h : s.Tracked) (p : Port) (x : Fin 8) : (s.frameEnd p x).Tracked := by
  unfold State.frameEnd
  split
  · exact h
  · exact h.kept (.of_eq rfl rfl rfl rfl rfl rfl rfl)
  · unfold State.frameEndWork
    dsimp only
    have hm : ∀ l f, s.Kept (((s.setLink p l).removal p f).moveNotices p) := fun l f =>
      ((Kept.of_eq rfl rfl rfl rfl rfl rfl rfl : s.Kept (s.setLink p l)).trans (kept_removal p f)).trans
        (.of_eq rfl rfl rfl rfl rfl rfl rfl)
    have hq : ∀ l f, (((s.setLink p l).removal p f).moveNotices p).Ledger [] := fun l f =>
      ((hl.quiet (.setLink p l)).quiet (.removal p f)).quiet (.moveNotices p)
    have hdrive : ∀ v : State, v.Tracked → v.driveAttention.Tracked := fun v hv =>
      hv.kept (.of_eq rfl rfl rfl rfl rfl rfl rfl)
    refine hdrive _ ?_
    split
    · exact (h.kept (hm ..)).handRequest (hq ..) ..
    · exact (h.kept (hm ..)).kept (.of_eq rfl rfl rfl rfl rfl rfl rfl)

theorem kept_frameBegin (p : Port) : s.Kept (s.frameBegin p) := by
  unfold frameBegin
  split <;> exact .of_eq rfl rfl rfl rfl rfl rfl rfl

theorem kept_inboundByte (p : Port) (b : Byte) : s.Kept (s.inboundByte p b) := by
  unfold inboundByte
  dsimp only
  split <;> exact .of_eq rfl rfl rfl rfl rfl rfl rfl

/-! ## The grant (R94 to R96) -/

theorem lowestDevice_some {f : Tracker → Bool} (h : s.lowestDevice f = some d) : f (s.tracker d) = true :=
  List.find?_some (p := fun d => f (s.tracker d)) h

/-- The arbiter grants a tracker a job that it wants (R94, R95). -/
theorem nextGrant_wants {k : TrackerJob} (h : s.nextGrant = some (.tracker k d)) : (s.tracker d).wants k = true := by
  unfold nextGrant at h
  split at h
  · next hd =>
    cases h
    exact lowestDevice_some hd
  split at h
  · next hd =>
    have hor := lowestDevice_some hd
    cases h
    split
    · next hs => exact hs
    · next hs =>
      rw [Bool.eq_false_iff.mpr hs, Bool.false_or] at hor
      exact hor
  split at h
  · next hd =>
    cases h
    exact lowestDevice_some hd
  · simp at h

/-- The arbiter grants an eligible request (R96). -/
theorem nextRequest_eligible {r : Request} (h : s.nextRequest = some r) : s.eligible r = true := by
  rw [nextRequest, Option.or_eq_some_iff] at h
  obtain h | ⟨_, h⟩ := h <;> exact List.find?_some h

theorem eligible_admits {r : Request} (h : s.eligible r = true) :
    (s.tracker r.device).admits (s.profile r.device) r = true := by
  rw [eligible, Bool.and_eq_true, Bool.and_eq_true] at h
  exact h.1.1

/-- A granted job finds its tracker as it must (R99, R100); nothing is granted while the pin is asserted (R183). -/
theorem Tracked.grant (h : s.Tracked) (hj : s.job = none) {k : JobKind} (hk : s.nextGrant = some k) :
    (s.grant k).Sound := by
  cases k with
  | tracker k d =>
    have hwants := nextGrant_wants hk
    have hpin : ¬ (s.power = .on ∧ s.resetPin = true) := h.toSound.unpinned_of_not_held (d := d) fun hheld =>
      absurd (hwants.symm.trans (Tracker.not_wants_of_held (h.trackers d) (h.wants d) hheld k)) nofun
    have h₁ : (s.setTracker d ((s.tracker d).granted k)).Sound :=
      h.toSound.setTracker ((h.trackers d).granted k) (fun _ hx => absurd (hj.symm.trans hx) nofun)
        fun hp => absurd hp hpin
    refine h₁.setJob_some ?_ hpin
    show JobKind.fits _ (s.profile d) ((s.setTracker d ((s.tracker d).granted k)).tracker d) (.tracker k d)
    rw [tracker_setTracker_self]
    exact Tracker.fits_granted (h.trackers d) (h.wants d) hwants
  | request r m =>
    have hadmits := eligible_admits (nextRequest_eligible (nextGrant_request hk).2)
    have hpin : ¬ (s.power = .on ∧ s.resetPin = true) := h.toSound.unpinned_of_not_held (d := r.device) fun hheld =>
      absurd (hadmits.symm.trans (Tracker.not_admits_of_held hheld)) nofun
    have h₁ : s.Kept { s.setQueue r.port ((s.queue r.port).erase r) with lastGranted := r.port } :=
      .of_eq rfl rfl rfl rfl rfl rfl rfl
    exact (h.toSound.kept h₁).setJob_some (Tracker.fits_admitted (h.trackers r.device) hadmits) hpin

theorem Tracked.busGrant (h : s.Tracked) : s.busGrant.Tracked := by
  unfold State.busGrant
  split
  · next k hj hk => exact (h.grant hj hk).reconsider
  · exact h

/-! ## Completions -/

theorem Tracked.readJobComplete (h : s.Tracked) (l : List Byte) : (s.readJobComplete l).Tracked := by
  unfold State.readJobComplete
  split
  · split
    · dsimp only
      have h₁ : ∀ n, ((s.setJob none).countFree n).Tracked := fun _ =>
        h.setJob_none.kept (.of_eq rfl rfl rfl rfl rfl rfl rfl)
      split
      · exact h₁ _
      · exact ((h₁ _).toSound.kept (kept_answer ..)).close
    · exact h
  · exact h

theorem Tracked.startJobComplete (h : s.Tracked) : s.startJobComplete.Tracked := by
  unfold State.startJobComplete
  split
  · next r m l hj =>
    split
    · exact h
    · next hw =>
      dsimp only
      split
      · exact h.setJob_none.setTracker (h.toSound.completed hj (h.trackers r.device).startDiscarded)
          (h.wants r.device).startDiscarded
      · next hpart =>
        have hfits := h.toSound.fits hj
        rw [operating_of_not_resetting hpart] at hfits
        exact (h.toSound.completed hj ((h.trackers r.device).push hfits hw)).reconsider
  · exact h

/-- A poll reports something only to a tracker that is RUNNING or SUSPENDING (R57, R59, R77). -/
theorem pollEffect_state {v : Tracker} {prof : Profile} {b : Byte} (h : v.pollEffect prof b ≠ .discarded) :
    v.state = .running ∨ v.state = .suspending := by
  unfold Tracker.pollEffect at h
  split at h
  · exact absurd rfl h
  · split at h
    · exact absurd rfl h
    · split at h
      · next e => exact .inl e
      · next e => exact .inr e
      all_goals exact absurd rfl h

/-- The suspension of a record takes hold only in SUSPENDING (R57, R77). -/
theorem pollEffect_suspended {v : Tracker} {prof : Profile} {b : Byte} (h : v.pollEffect prof b = .suspended) :
    v.state = .suspending := by
  unfold Tracker.pollEffect at h
  split at h
  · cases h
  · split at h
    · cases h
    · split at h
      · split at h <;> cases h
      · next e => exact e
      all_goals cases h

theorem kept_answerTop (d : Device) (st : EndStatus) : s.Kept (s.answerTop d st) := by
  unfold answerTop
  split
  · exact kept_answer ..
  · exact .refl s

/-- A poll result is taken with the bus free, the POLL that brought it being no longer wanted (R57, R58, R77). -/
theorem Sound.pollResult (h : s.Sound) (hj : s.job = none) (hpin : ¬ (s.power = .on ∧ s.resetPin = true))
    (hw : (s.tracker d).wantPoll = false) (b : Byte) : (s.pollResult d b).Sound := by
  have hset : ∀ {v : State} {x : Tracker}, s.Kept v → x.Sound (s.profile d) → (v.setTracker d x).Sound :=
    fun {v x} hv hx => (h.kept hv).setTracker (hv.profile d ▸ hx)
      (fun _ hx => absurd ((hv.job.trans hj).symm.trans hx) nofun)
      fun hp => absurd ⟨hv.power ▸ hp.1, hv.resetPin ▸ hp.2⟩ hpin
  have ht := h.trackers d
  unfold State.pollResult
  dsimp only
  split
  · exact h
  · next he => exact hset (.refl s) (ht.rearmed (pollEffect_state (by rw [he]; nofun)) hw _)
  · next he => exact hset (.refl s) (ht.holdSuspended (pollEffect_suspended he))
  · next st he =>
    have hkept : s.Kept (s.answerTop d st) := kept_answerTop d st
    obtain ⟨n, hn, e⟩ := hkept.trackers d
    refine hset hkept ?_
    rw [e]
    exact (ht.lowerRef hn).popTop (pollEffect_state (v := s.tracker d) (by rw [he]; nofun))

theorem Tracked.pollComplete (h : s.Tracked) (status : Option Byte) : (s.pollComplete status).Tracked := by
  unfold State.pollComplete
  split
  · next d l hj =>
    dsimp only
    have hkept : (s.setJob none).Kept ((s.setJob none).countFree (if status.isNone then 1 else 0)) :=
      .of_eq rfl rfl rfl rfl rfl rfl rfl
    split
    · exact h.setJob_none.kept hkept
    · exact ((h.toSound.setJob_none.kept hkept).pollResult rfl (h.toSound.unpinned_of_job hj)
        (h.toSound.fits hj).1 _).close
  · exact h

theorem Tracked.suspendComplete (h : s.Tracked) : s.suspendComplete.Tracked := by
  unfold State.suspendComplete
  split
  · next d l hj =>
    dsimp only
    split
    · exact h.setJob_none
    · next hpart =>
      have hfits := h.toSound.fits hj
      rw [operating_of_not_resetting hpart] at hfits
      exact (h.toSound.completed hj ((h.trackers d).suspendDone hfits)).reconsider
  · exact h

theorem Tracked.resumeComplete (h : s.Tracked) : s.resumeComplete.Tracked := by
  unfold State.resumeComplete
  split
  · next d l hj =>
    dsimp only
    split
    · exact h.setJob_none
    · exact (h.toSound.completed hj (h.trackers d).resumeDone).reconsider
  · exact h

theorem Tracked.resetJobComplete (h : s.Tracked) : s.resetJobComplete.Tracked := by
  unfold State.resetJobComplete
  split
  · next d l hj =>
    dsimp only
    split
    · exact h.setJob_none
    · next hno =>
      obtain ⟨hs, _, hoperating⟩ := h.toSound.fits hj
      have hw : (s.tracker d).wantReset = false := by
        cases hpart : s.part with
        | operating => exact hoperating hpart
        | resetting => exact Bool.eq_false_iff.mpr fun e => hno ⟨hpart, e⟩
      have hkept : (s.setJob none).Kept ((s.setJob none).answerAll d (s.tracker d).stack) := kept_answerAll ..
      obtain ⟨n, hn, e⟩ := hkept.trackers d
      refine Sound.close ((h.toSound.setJob_none.kept hkept).setTracker ?_
        (fun _ hx => absurd (hkept.job.symm.trans hx) nofun) fun hp => ?_)
      · rw [hkept.profile]
        show Tracker.Sound (s.profile d) { ((s.setJob none).answerAll d (s.tracker d).stack).tracker d with
          stack := [], resetSettle := _ }
        rw [e]
        exact ((h.trackers d).lowerRef hn).emptied hs hw _
      · exact absurd ⟨hkept.power ▸ hp.1, hkept.resetPin ▸ hp.2⟩ (h.toSound.unpinned_of_job hj)
  · exact h

/-! ## Time -/

theorem Tracked.tick (h : s.Tracked) : s.tick.Tracked where
  trackers d := by
    rw [tick_tracker]
    exact (h.trackers d).tick
  job j hj := by
    have hfits := h.toSound.fits hj
    rw [meets_iff, tick_tracker]
    exact Tracker.fits_tick hfits
  pin hp hr := by
    obtain ⟨hpart, hclear, hj, htrackers⟩ := h.pin hp hr
    refine ⟨hpart, hclear, hj, fun d => ?_⟩
    rw [tick_tracker]
    obtain ⟨hs, hw, hn⟩ := htrackers d
    exact ⟨hs, hw, by show tickTimer _ = none; rw [hn]; rfl⟩
  wants d := by
    rw [tick_tracker]
    exact (h.wants d).tick

theorem Tracked.pollExpired (h : s.Tracked) (ht : (s.tracker d).pollTimer = some 0) :
    (s.setTracker d { s.tracker d with pollTimer := none, wantPoll := true }).Tracked :=
  h.setTracker (h.toSound.setTracker ((h.trackers d).pollExpired ht)
      (fun _ _ _ hk => Tracker.fits_pollExpired hk ht) fun hp => (h.pin hp.1 hp.2).2.2.2 d)
    ⟨(h.wants d).suspend, (h.wants d).resume⟩

/-- The top record of a RUNNING or SUSPENDING tracker ends TIMEOUT (R60, R79). -/
theorem Tracked.timeOut (h : s.Tracked) {top top' : OpRecord} {rest : List OpRecord}
    (hstack : (s.tracker d).stack = top :: rest) (hopen : top.endStatus = none) (htop : top.Stays top') :
    (s.setTracker d ((s.tracker d).timeOut top' rest)).reconsider.Tracked := by
  have ht := h.trackers d
  refine (h.toSound.setTracker (ht.timeOut hstack hopen htop)
    (fun _ _ _ hk => Tracker.fits_timeOut ht hk hstack hopen htop) fun hp => ?_).reconsider
  have hactive := Tracker.active_of_open ht.shape (rec := top) (by simp [hstack]) hopen
  obtain ⟨e | e, _⟩ := (h.pin hp.1 hp.2).2.2.2 d <;> simp [e] at hactive

theorem deadlineDue_open {v : Tracker} {top : OpRecord} {rest : List OpRecord}
    (h : v.deadlineDue = some (top, rest)) : top.endStatus = none := by
  have hcounting : top.counting = true := by
    unfold Tracker.deadlineDue at h
    split at h
    · split at h
      · next hc => cases h; exact hc.1
      · cases h
    · split at h
      · next hc => cases h; exact hc.1
      · cases h
    · cases h
  simp only [OpRecord.counting, OpRecord.ending, Bool.and_eq_true, Bool.not_eq_true', Option.isSome_eq_false_iff,
    Option.isNone_iff_eq_none] at hcounting
  exact hcounting.1

theorem settleDue_open {v : Tracker} {top : OpRecord} {rest : List OpRecord}
    (h : v.settleDue = some (top, rest)) : top.endStatus = none := by
  unfold Tracker.settleDue at h
  split at h
  · split at h
    · next hc =>
      cases h
      simpa [OpRecord.ending] using hc.1
    · cases h
  · cases h

/-- Into FAULTED: with the drain no request for the device is left, so its reference count is 0 (R66, R190). -/
theorem Tracked.quarantine (hl : s.Ledger []) (h : s.Tracked) (hs : (s.tracker d).state = .recovering)
    (ht : (s.tracker d).resetSettle ≠ none) (hc : (s.tracker d).cause = some .timeout)
    (h3 : (s.tracker d).timeouts = 3) : (s.quarantine d).Tracked := by
  have htd := h.trackers d
  have hpart : s.part = .operating := operating_of_not_resetting fun hp =>
    absurd (((hl.discard hp).2 d).2.symm.trans hc) nofun
  have hempty := (htd.resetSettle ht).2
  set faulted := s.setTracker d ((s.tracker d).settled .faulted) with hfaulted
  have hl₁ : faulted.Ledger [] := hl.setTracker_operating hpart ⟨rfl, fun _ => rfl⟩
  have hl₂ := hl₁.drain hpart d .A
  have hl₃ := hl₂.drain ((drain_part d .A).trans hpart) d .B
  have hkept : faulted.Kept ((faulted.drain d .A).drain d .B) := (kept_drain d .A).trans (kept_drain d .B)
  obtain ⟨n, hn, e⟩ := hkept.trackers d
  have hn : n = 0 := by
    have hzero := hl₃.refCount_zero (d := d) (fun p r hr => ?_) (fun r hr => ?_) ?_
    · rw [e] at hzero
      exact hzero
    · cases p <;> simp only [drain_queue] at hr <;> simp at hr <;> exact hr.2
    · rw [flight_eq (s := s) (hkept.part.trans rfl) (hkept.job.trans rfl)] at hr
      intro hd
      cases hj : s.job with
      | none =>
        rw [flight_of_none hj] at hr
        cases hr
      | some j =>
        obtain ⟨kind, sel⟩ := j
        have hfits := h.toSound.fits hj
        cases kind with
        | tracker k x =>
          rw [flight_of_tracker hj] at hr
          cases hr
        | request x m =>
          rw [flight_of_request hpart hj, List.mem_singleton] at hr
          subst hr
          have hk := Tracker.fits_settled (h.trackers r.device) hfits (hd ▸ hs) (hd ▸ ht) .faulted 0 hpart
          obtain ⟨_, hx | ⟨hx | ⟨hx, _⟩, _⟩⟩ := hk <;> cases hx
    · rw [e]
      simp only [hfaulted, tracker_setTracker_self]
      exact hempty
  subst hn
  have hzero : (s.setTracker d { (s.tracker d).settled .faulted with refCount := 0 }).Sound :=
    h.toSound.setTracker (htd.settled hs ht (.inr ⟨rfl, h3, rfl⟩))
      (fun _ _ _ hk => Tracker.fits_settled htd hk hs ht .faulted 0)
      fun hp => absurd hp (h.toSound.unpinned_of_operating hpart)
  have hkept' : (s.setTracker d { (s.tracker d).settled .faulted with refCount := 0 }).Kept
      ((faulted.drain d .A).drain d .B) := by
    refine ⟨hkept.power, hkept.resetPin, hkept.part, hkept.clearStep, hkept.profiles, hkept.job, fun x => ?_⟩
    by_cases hx : x = d
    · subst hx
      exact ⟨0, Nat.zero_le _, by rw [e]; simp [hfaulted]⟩
    · have := hkept.trackers x
      simpa [hfaulted, tracker_setTracker, hx] using this
  exact Sound.close ((hzero.kept hkept').kept (.of_eq rfl rfl rfl rfl rfl rfl rfl))

/-- The end of a recovery (R64, R66). -/
theorem Tracked.resetSettle (hl : s.Ledger []) (h : s.Tracked) (hs : (s.tracker d).state = .recovering)
    (ht : (s.tracker d).resetSettle ≠ none) :
    (if (s.tracker d).cause = some .timeout ∧ (s.tracker d).timeouts = 3 then s.quarantine d
      else (s.setTracker d ((s.tracker d).settled .idle)).reconsider).Tracked := by
  have htd := h.trackers d
  split
  · next hc => exact h.quarantine hl hs ht hc.1 hc.2
  · next hc =>
    have hne : (s.tracker d).timeouts ≠ 3 := fun e =>
      (htd.timeouts.2.1 e).elim (fun x => hc ⟨x.2, e⟩) fun x => absurd (hs.symm.trans x) nofun
    have hsettled := htd.settled (n := (s.tracker d).refCount) hs ht (.inl ⟨rfl, hne⟩)
    exact (h.toSound.setTracker (v := (s.tracker d).settled .idle) hsettled
      (fun _ _ _ hk => Tracker.fits_settled htd hk hs ht .idle (s.tracker d).refCount)
      fun hp => absurd ((h.pin hp.1 hp.2).2.2.2 d).2.2 ht).reconsider

/-! ## Every command -/

theorem Tracked.powered (h : s.Tracked) (hu : u.Tracked) (he : s.powered u = .next t) : t.Tracked := by
  obtain rfl | rfl := powered_next he
  · exact h
  · exact hu

theorem Tracked.next (hu : u.Tracked) (he : (.next u : Host.Outcome State Fault Refusal) = .next t) : t.Tracked := by
  cases he
  exact hu

/-- Every command keeps the laws of the trackers (R48, R53, R66, R72, R83, R89, R90, R100, R183). -/
theorem Tracked.exec (hl : s.Ledger []) (h : s.Tracked) (c : Instr) (he : exec c s = .next t) : t.Tracked := by
  cases c with
  | coldStart pin a b => exact Tracked.next (cold_tracked _ (by decide) ..) he
  | powerOff => exact Tracked.next (cold_tracked _ (by decide) ..) he
  | null | read | program | erase | windowWrite | windowRead | profileWrite | profileRead | swap | freeze | handover
  | statusRead | abort | warmReset => exact h.powered (h.handRequest hl ..) ((exec_handed rfl).symm.trans he)
  | coldStartEnd =>
    refine Tracked.next ?_ he
    split
    · next hp => exact h.coldEnd hl (hp ▸ nofun)
    · exact h
  | clearStep =>
    refine Tracked.next ?_ he
    split
    · next hc =>
      rw [clearMayBeTaken, Bool.and_eq_true, Bool.not_eq_true'] at hc
      exact h.clear hc.2
    · exact h
  | resetSequenceEnd =>
    refine Tracked.next ?_ he
    split
    · next hp => exact h.sequenceEnd hp
    · exact h
  | resetPinAssert =>
    refine Tracked.next ?_ he
    split
    · exact h
    · next hp => exact ⟨⟨h.trackers, h.job, fun hon => absurd (hp.symm.trans hon) nofun⟩, h.wants⟩
    · split
      · exact h
      · exact h.pinBegin
  | resetPinRelease =>
    refine Tracked.next ?_ he
    split
    · next hr =>
      split
      · exact h
      · next hp => exact h.coldEnd hl (hp ▸ nofun)
      · next hp => exact h.pinRelease hp hr
    · exact h
  | frameBegin p => exact h.powered (h.kept (kept_frameBegin p)) he
  | frameEnd p x => exact h.powered (h.frameEnd hl p x) he
  | inboundByte p b => exact h.powered (h.kept (kept_inboundByte p b)) he
  | busGrant => exact h.powered h.busGrant he
  | readJobComplete l => exact h.powered (h.readJobComplete l) he
  | startJobComplete => exact h.powered h.startJobComplete he
  | pollComplete b => exact h.powered (h.pollComplete b) he
  | suspendComplete => exact h.powered h.suspendComplete he
  | resumeComplete => exact h.powered h.resumeComplete he
  | resetJobComplete => exact h.powered h.resetJobComplete he
  | timeBaseTick => exact h.powered h.tick he
  | clkPeriod =>
    refine h.powered ?_ he
    split
    · exact h.tick
    · exact h.kept (.of_eq rfl rfl rfl rfl rfl rfl rfl)
  | pollTimerExpiry d =>
    refine h.powered ?_ he
    split
    · next ht => exact h.pollExpired ht
    · exact h
  | deadlineExpiry d =>
    refine h.powered ?_ he
    split
    · next hd =>
      exact h.timeOut (deadlineDue_stack hd) (deadlineDue_open hd) ⟨rfl, rfl, rfl, rfl, rfl, fun _ => le_rfl⟩
    · exact h
  | suspendSettleExpiry d =>
    refine h.powered ?_ he
    split
    · next hd => exact h.timeOut (settleDue_stack hd) (settleDue_open hd) (.refl _)
    · exact h
  | resetSettleExpiry d =>
    refine h.powered ?_ he
    split
    · next hs => exact h.resetSettle hl hs.1 (by rw [hs.2]; nofun)
    · exact h

end State

/-- The laws of the trackers are the ledger, the laws of each tracker, and those of the job and of the pin: that no
request for a FAULTED device waits follows from the ledger and its reference count of 0. -/
theorem trackerLaws_iff {s : State} : TrackerLaws s ↔ s.Ledger [] ∧ s.Tracked := by
  constructor
  · intro h
    refine ⟨ledgerLaw_iff.mp h.ledger, ⟨fun d => ?_, h.job, h.pin⟩, fun d => ?_⟩
    · have hw := h.wants d
      exact ⟨h.shapes d, hw.poll, hw.reset, hw.pollTimer, hw.suspendSettle, hw.resetSettle, hw.cause, h.offline d,
        fun rec hr => ⟨(h.suspendLimit d rec hr).1, fun hs => (h.suspendLimit d rec hr).2 (.inl hs)⟩, h.timeouts d,
        h.deadlines d, fun hf => (h.quarantine d hf).1⟩
    · have hw := h.wants d
      refine ⟨fun hs => ?_, hw.resume⟩
      obtain ⟨hrun, hlen⟩ := hw.suspend hs
      obtain ⟨rec, hrec⟩ := List.length_eq_one_iff.mp hlen
      exact ⟨hrun, rec, hrec, (h.suspendLimit d rec (by simp [hrec])).2 (.inr hs) (by simp [hrun])⟩
  · rintro ⟨hl, h⟩
    refine ⟨ledgerLaw_iff.mpr hl, fun d => (h.trackers d).shape, fun d => ?_, fun d => (h.trackers d).offline,
      fun d rec hr => ?_, fun d => (h.trackers d).timeouts, fun d => (h.trackers d).deadlines, fun d hf => ?_, h.job,
      h.pin⟩
    · have ht := h.trackers d
      refine ⟨ht.poll, fun hs => ?_, (h.wants d).resume, ht.reset, ht.pollTimer, ht.suspendSettle, ht.resetSettle,
        ht.cause⟩
      obtain ⟨hrun, rec, hrec, _⟩ := (h.wants d).suspend hs
      exact ⟨hrun, by rw [hrec]; rfl⟩
    · refine ⟨((h.trackers d).suspends rec hr).1, ?_⟩
      rintro (hs | hs) hne
      · exact ((h.trackers d).suspends rec hr).2 hs hne
      · obtain ⟨_, one, hone, hlt⟩ := (h.wants d).suspend hs
        rw [hone, List.mem_singleton] at hr
        exact hr ▸ hlt
    · have hzero := (h.trackers d).faulted hf
      exact ⟨hzero, fun p r hr => hl.not_owed hzero (State.mem_owed_of_queue hr)⟩

/-- Settles O55: the laws of every command, for the command at the front of the queue. -/
theorem trackerLawsKept : Obligations.TrackerLawsKept := by
  intro s t hs h
  obtain rfl | ⟨c, rest, _, he⟩ := State.step_next h
  · exact hs
  · obtain ⟨hl, ht⟩ := trackerLaws_iff.mp hs
    have hl' : ({ s with pending := rest } : State).Ledger [] := hl.quiet (.of_eq rfl rfl rfl rfl rfl rfl rfl)
    have ht' : ({ s with pending := rest } : State).Tracked :=
      ht.kept (.of_eq rfl rfl rfl rfl rfl rfl rfl)
    exact trackerLaws_iff.mpr ⟨hl'.exec c he, ht'.exec hl' c he⟩

end Sys2Proof.Machine
end

section
/-! SUPPORT. The grant of a tracker's job, and the completions of start, POLL, SUSPEND, RESUME and RESET jobs in
operation. -/

namespace Sys2Proof.Machine

/-! ## The grant of a tracker's job (R95) -/

/-- The devices in order: those below a device stand before it. -/
theorem allDevices_split (d : Device) :
    allDevices = allDevices.take d ++ d :: allDevices.drop (d + 1) ∧ ∀ e ∈ allDevices.take d, e < d := by
  revert d
  decide

namespace State

variable {s : State} {d : Device} {sel : List SelectPeriod}

theorem lowestDevice_eq {f : Tracker → Bool} (hd : f (s.tracker d) = true)
    (hlow : ∀ e, e < d → f (s.tracker e) = false) : s.lowestDevice f = some d := by
  obtain ⟨hsplit, hbelow⟩ := allDevices_split d
  refine List.find?_eq_some_iff_append.mpr ⟨hd, _, _, hsplit, fun e he => ?_⟩
  rw [hlow e (hbelow e he)]
  rfl

theorem lowestDevice_none {f : Tracker → Bool} (h : ∀ e, f (s.tracker e) = false) : s.lowestDevice f = none :=
  List.find?_eq_none.mpr fun e _ => Bool.eq_false_iff.mp (h e)

/-- Class 1 (R95). -/
theorem nextGrant_reset (hd : (s.tracker d).wantReset = true) (hlow : ∀ e, e < d → (s.tracker e).wantReset = false) :
    s.nextGrant = some (.tracker .reset d) := by
  rw [nextGrant, lowestDevice_eq hd hlow]

/-- Class 2 (R95): of the two jobs of one tracker SUSPEND, where it is wanted. -/
theorem nextGrant_suspend_resume (hreset : ∀ e, (s.tracker e).wantReset = false)
    (hd : ((s.tracker d).wantSuspend || (s.tracker d).wantResume) = true)
    (hlow : ∀ e, e < d → (s.tracker e).wantSuspend = false ∧ (s.tracker e).wantResume = false) :
    s.nextGrant = some (.tracker (if (s.tracker d).wantSuspend then .suspend else .resume) d) := by
  have hfirst : s.lowestDevice (fun t => t.wantSuspend || t.wantResume) = some d :=
    lowestDevice_eq hd fun e he => by rw [(hlow e he).1, (hlow e he).2]; rfl
  rw [nextGrant, lowestDevice_none hreset, hfirst]

/-- Class 3 (R95). -/
theorem nextGrant_poll (hreset : ∀ e, (s.tracker e).wantReset = false)
    (hsr : ∀ e, (s.tracker e).wantSuspend = false ∧ (s.tracker e).wantResume = false)
    (hd : (s.tracker d).wantPoll = true) (hlow : ∀ e, e < d → (s.tracker e).wantPoll = false) :
    s.nextGrant = some (.tracker .poll d) := by
  have hnone : s.lowestDevice (fun t => t.wantSuspend || t.wantResume) = none :=
    lowestDevice_none fun e => by rw [(hsr e).1, (hsr e).2]; rfl
  rw [nextGrant, lowestDevice_none hreset, hnone, lowestDevice_eq hd hlow]

theorem exec_busGrant (hp : s.power ≠ .off) (hj : s.job = none) {k : JobKind} (hk : s.nextGrant = some k) :
    exec .busGrant s = .next (s.grant k).reconsider := by
  refine (s.powered_on _ hp).trans (congrArg _ ?_)
  rw [busGrant, hj, hk]

end State

/-- Settles O34: the first device of the first class that holds a candidate. -/
theorem trackerJobsGrantedByClass : Obligations.TrackerJobsGrantedByClass := by
  intro s d hp hj hlow
  refine ⟨fun hd => ?_, fun hreset hsr => ⟨fun hd => ?_, fun hs hd => ?_, fun hnone hpoll hd => ?_⟩⟩
  · rw [State.exec_busGrant hp hj (State.nextGrant_reset hd hlow)]
    rfl
  · have hk := State.nextGrant_suspend_resume hreset (by rw [hd]; rfl) hsr
    rw [if_pos hd] at hk
    rw [State.exec_busGrant hp hj hk]
    rfl
  · have hk := State.nextGrant_suspend_resume hreset (by rw [hd, Bool.or_true]) hsr
    rw [if_neg (Bool.eq_false_iff.mp hs)] at hk
    rw [State.exec_busGrant hp hj hk]
    rfl
  · rw [State.exec_busGrant hp hj (State.nextGrant_poll hreset hnone hd hpoll)]
    rfl

/-! ## Start job completion (R54, R174) -/

namespace Request

variable {r : Request} {prof : Profile} (m : Bool) (e : Option EndStatus)

/-- The record of a PROGRAM (R54). -/
theorem toRecord_program {data : List Byte} (h : r.work = .program data) : r.toRecord prof m e =
    { port := r.port, tag := r.tag, kind := .program, start := r.start, length := r.count, unit := none,
      window := r.window, limit := prof.programLimit, state := .running, busyTime := 0, suspendCount := 0,
      abortMark := m, deadlineDue := false, endStatus := e } := by
  rw [toRecord, h]

/-- The record of an ERASE by a numbered unit of the profile (R54). -/
theorem toRecord_erase {n : Nat} {u : EraseUnit} (h : r.work = .erase (n + 1)) (hu : prof.eraseUnits[n]? = some u) :
    r.toRecord prof m e =
    { port := r.port, tag := r.tag, kind := .erase, start := r.start, length := r.count, unit := some (n + 1),
      window := r.window, limit := u.limit, state := .running, busyTime := 0, suspendCount := 0,
      abortMark := m, deadlineDue := false, endStatus := e } := by
  have hunit : prof.unit? (n + 1) = some u := hu
  rw [toRecord, h]
  dsimp only
  rw [hunit]
  rfl

end Request

namespace Tracker

variable {t : Tracker} (prof : Profile) (r : Request)

theorem push_recovering (m : Bool) (h : t.state = .recovering) : t.push prof r m =
    { t with stack := r.toRecord prof m (some (if m then .aborted else .lost)) :: t.stack } := if_pos h

theorem push_marked (h : t.state ≠ .recovering) : t.push prof r true =
    { t with stack := r.toRecord prof true (some .aborted) :: t.stack }.recover .aborted := if_neg h

theorem push_unmarked (h : t.state ≠ .recovering) : t.push prof r false =
    { t with
      stack := r.toRecord prof false none :: t.stack
      state := .running
      pollTimer := some prof.pollInterval } := if_neg h

end Tracker

/-- The completion of a start job in operation hands its request to the tracker (R54). -/
theorem State.exec_startJobComplete {s : State} {r : Request} {m : Bool} {sel : List SelectPeriod}
    (hp : s.power ≠ .off) (hpart : s.part = .operating)
    (hj : s.job = some { kind := .request r m, selects := sel }) (hw : r.work ≠ .read) :
    exec .startJobComplete s
      = .next ((s.setJob none).setTracker r.device
          ((s.tracker r.device).push (s.profile r.device) r m)).reconsider := by
  refine (s.powered_on _ hp).trans (congrArg _ ?_)
  rw [startJobComplete, hj]
  dsimp only
  rw [if_neg hw, if_neg (by rw [hpart]; nofun)]

/-- Settles O39: the record a request becomes, and the three ways a tracker takes it. -/
theorem startJobPushesRecord : Obligations.StartJobPushesRecord := by
  intro s r m sel kind unit limit hp hpart hj hwork t made
  have hrecord : ∀ e, r.toRecord (s.profile r.device) m e = made e := fun e => by
    obtain ⟨⟨data, hw⟩, rfl, rfl, rfl⟩ | ⟨n, u, hw, hu, rfl, rfl, rfl⟩ := hwork
    · exact Request.toRecord_program m e hw
    · exact Request.toRecord_erase m e hw hu
  have hread : r.work ≠ .read := by
    obtain ⟨⟨data, hw⟩, -⟩ | ⟨n, u, hw, -⟩ := hwork <;> rw [hw] <;> nofun
  rw [State.exec_startJobComplete hp hpart hj hread]
  refine ⟨fun ht => ?_, fun ht => ?_⟩
  · have hne : (s.tracker r.device).state ≠ .recovering := by
      obtain ht | ht := ht <;> exact fun e => absurd (ht.symm.trans e) nofun
    refine ⟨fun hm => ?_, fun hm => ?_⟩ <;> rw [hm] at hrecord ⊢
    · rw [Tracker.push_unmarked _ _ hne, hrecord]
      rfl
    · rw [Tracker.push_marked _ _ hne, hrecord]
      rfl
  · rw [Tracker.push_recovering _ _ _ ht, hrecord]
    rfl

/-! ## POLL completion that ends the top record (R57, R58, R77, R78) -/

/-- The error bit decides how the record ends (R57). -/
theorem finishedStatus_eq {prof : Profile} {b : Byte} {st : EndStatus}
    (h : (∃ i, prof.errorBit = some i ∧ b.getLsbD i = true) ∧ st = .deviceError
      ∨ (∀ i, prof.errorBit = some i → b.getLsbD i = false) ∧ st = .done) : finishedStatus prof b = st := by
  obtain ⟨⟨i, hi, hb⟩, rfl⟩ | ⟨hclear, rfl⟩ := h
  · rw [finishedStatus, hi]
    exact if_pos hb
  · rw [finishedStatus, statusBit_clear hclear]
    exact if_neg Bool.false_ne_true

theorem Tracker.popTop_of_top {t : Tracker} {top : OpRecord} {rest : List OpRecord} (hs : t.stack = top :: rest) :
    t.popTop = { t with
      state := if rest = [] then .idle else .suspended
      stack := rest
      wantPoll := false
      pollTimer := none
      suspendSettle := none
      timeouts := 0 } := by
  rw [popTop, hs]
  cases rest <;> rfl

/-- An answer leaves the stacks as they are. -/
theorem State.answer_stack (s : State) (p : Port) (m : Message) (w : WindowNo) (d e : Device) :
    ((s.answer p m w d).tracker e).stack = (s.tracker e).stack := by
  rw [answer_tracker]
  split
  · next h => rw [h]
  · rfl

/-- A poll result that ends the top record: its answer, then the pop (R58). -/
theorem State.pollResult_of_finished {s : State} {d : Device} {b : Byte} {st : EndStatus} {top : OpRecord}
    {rest : List OpRecord} (h : (s.tracker d).pollEffect (s.profile d) b = .finished st)
    (hs : (s.tracker d).stack = top :: rest) :
    s.pollResult d b = (s.answerRecord d top st.status).setTracker d
      ((s.answerRecord d top st.status).tracker d).popTop := by
  rw [pollResult, h]
  dsimp only
  rw [answerTop, hs]

/-- Settles O40: the rows of R57 and R77 that end the record, its answer and the pop. -/
theorem pollEndsRecord : Obligations.PollEndsRecord := by
  intro s d sel b top rest st hp hpart hj hs he hstate hbusy hend
  have hst := finishedStatus_eq hend
  have heffect : (s.tracker d).pollEffect (s.profile d) b = .finished st := by
    obtain ht | ⟨ht, hclear⟩ := hstate
    · rw [Tracker.pollEffect_running hs he ht, hbusy, hst]
      rfl
    · rw [Tracker.pollEffect_suspending hs he ht, statusBit_clear hclear, hbusy, hst]
      rfl
  have hexec : exec (.pollComplete (some b)) s = .next ((s.setJob none).pollResult d b).close :=
    State.exec_pollComplete hp hpart hj (some b)
  have hstack : (((s.setJob none).answerRecord d top st.status).tracker d).stack = top :: rest :=
    (State.answer_stack ..).trans hs
  intro s₁
  rw [hexec, State.pollResult_of_finished (s := s.setJob none) heffect hs, Tracker.popTop_of_top hstack]
  obtain ⟨-, rfl⟩ | ⟨-, rfl⟩ := hend <;> rfl

/-! ## SUSPEND and RESUME completion (R59, R76, R88) -/

namespace Tracker

variable {t : Tracker} {prof : Profile} {top : OpRecord} {rest : List OpRecord}

theorem suspendDone_running (ht : t.state = .running) (hs : t.stack = top :: rest) (he : top.endStatus = none) :
    t.suspendDone prof = { t with
      state := .suspending
      stack := { top with state := .suspending } :: rest
      wantPoll := false
      suspendSettle := some prof.settleLimit
      pollTimer := some prof.pollInterval } := by
  rw [suspendDone, ht, hs]
  exact if_neg (OpRecord.not_ending he)

theorem suspendDone_other (ht : t.state ≠ .running) : t.suspendDone prof = t := by
  unfold suspendDone
  split
  · next h _ => exact absurd h ht
  · rfl

theorem resumeDone_suspended (ht : t.state = .suspended) (hs : t.stack = top :: rest) : t.resumeDone prof = { t with
    state := .running
    stack := { top with state := .running } :: rest
    pollTimer := some prof.pollInterval } := by
  rw [resumeDone, ht, hs]

theorem resumeDone_other (ht : t.state ≠ .suspended) : t.resumeDone prof = t := by
  unfold resumeDone
  split
  · next h _ => exact absurd h ht
  · rfl

end Tracker

namespace State

variable {s : State} {d : Device} {sel : List SelectPeriod}

theorem exec_suspendComplete (hp : s.power ≠ .off) (hpart : s.part = .operating)
    (hj : s.job = some { kind := .tracker .suspend d, selects := sel }) :
    exec .suspendComplete s
      = .next ((s.setJob none).setTracker d ((s.tracker d).suspendDone (s.profile d))).reconsider := by
  refine (s.powered_on _ hp).trans (congrArg _ ?_)
  rw [suspendComplete, hj]
  exact if_neg (by rw [hpart]; nofun)

theorem exec_resumeComplete (hp : s.power ≠ .off) (hpart : s.part = .operating)
    (hj : s.job = some { kind := .tracker .resume d, selects := sel }) :
    exec .resumeComplete s
      = .next ((s.setJob none).setTracker d ((s.tracker d).resumeDone (s.profile d))).reconsider := by
  refine (s.powered_on _ hp).trans (congrArg _ ?_)
  rw [resumeComplete, hj]
  exact if_neg (by rw [hpart]; nofun)

end State

/-- Settles O42: the completion is taken by a tracker that awaits it, and discarded in RECOVERING. -/
theorem suspendAndResumeComplete : Obligations.SuspendAndResumeComplete := by
  intro s d sel hp hpart
  refine ⟨fun hj => ?_, fun hj => ?_⟩
  · rw [State.exec_suspendComplete hp hpart hj]
    refine ⟨fun rec ht hs he => ?_, fun ht => ?_⟩
    · rw [Tracker.suspendDone_running ht hs he]
      rfl
    · rw [Tracker.suspendDone_other (ht ▸ nofun)]
      rfl
  · rw [State.exec_resumeComplete hp hpart hj]
    refine ⟨fun rec ht hs => ?_, fun ht => ?_⟩
    · rw [Tracker.resumeDone_suspended ht hs]
      rfl
    · rw [Tracker.resumeDone_other (ht ▸ nofun)]
      rfl

/-! ## RESET completion (R63, R181) -/

namespace State

variable {s : State} {d : Device} {sel : List SelectPeriod}

/-- Records are answered one after another, the first first (R63). -/
theorem answerAll_eq_foldl (s : State) (d : Device) (l : List OpRecord) : s.answerAll d l
    = l.foldl (fun u rec => u.answerRecord d rec (rec.endStatus.getD .lost).status) s := by
  induction l generalizing s with
  | nil => rfl
  | cons rec l ih => exact ih _

/-- A RESET completion is taken in operation, and within a reset sequence when the sequence wants no RESET of its own
(R181, assumption 19). -/
theorem exec_resetJobComplete (hp : s.power ≠ .off)
    (hj : s.job = some { kind := .tracker .reset d, selects := sel })
    (h : s.part = .operating ∨ (s.tracker d).wantReset = false) :
    exec .resetJobComplete s = .next ((s.setJob none).resetDone d).close := by
  refine (s.powered_on _ hp).trans (congrArg _ ?_)
  rw [resetJobComplete, hj]
  refine if_neg fun ⟨hpart, hw⟩ => ?_
  obtain h | h := h
  · exact absurd (hpart.symm.trans h) nofun
  · exact absurd (hw.symm.trans h) nofun

end State

/-- Settles O43: each record's end status is the status of its answer. -/
theorem resetJobAnswersRecords : Obligations.ResetJobAnswersRecords := by
  intro s d sel hp hj hpart hend status
  have hanswers : (s.setJob none).answerAll d (s.tracker d).stack = (s.tracker d).stack.foldl
      (fun (u : State) rec => u.answer rec.port
        (.response (match rec.kind with | .program => .program | .erase => .erase) rec.tag (status rec.endStatus)
          .absent) rec.window d) { s with job := none } := by
    rw [State.answerAll_eq_foldl]
    refine List.foldl_ext _ _ _ fun u rec hrec => ?_
    obtain ⟨st, hst⟩ := Option.ne_none_iff_exists'.mp (hend rec hrec)
    have hstatus : (rec.endStatus.getD .lost).status = status rec.endStatus := by
      rw [hst]
      cases st <;> rfl
    rw [hstatus]
    rfl
  dsimp only
  rw [State.exec_resetJobComplete hp hj hpart, State.resetDone, State.setJob_tracker, hanswers]
  rfl

end Sys2Proof.Machine
end

section
/-! SUPPORT. Ticks and CLK periods, the expiries of a tracker's timers and deadline, and the end of a recovery. -/

namespace Sys2Proof.Machine

/-! ## Ticks and CLK periods (R55, R193) -/

/-- The busy time of a record counts while it is not ending and not SUSPENDED (R55). -/
theorem OpRecord.counting_iff {rec : OpRecord} :
    rec.counting = true ↔ rec.endStatus = none ∧ rec.state ≠ .suspended := by
  simp [counting, ending]

/-- A record after one tick, by whether its busy time counts and stays below its limit (R55). -/
theorem OpRecord.tick_eq (rec : OpRecord) : rec.tick =
    if rec.endStatus = none ∧ rec.state ≠ .suspended then
      if rec.busyTime + 1 < rec.limit then { rec with busyTime := rec.busyTime + 1 }
      else { rec with deadlineDue := true }
    else rec := by
  rw [tick]
  exact if_congr counting_iff rfl rfl

namespace State

variable {s : State}

theorem exec_timeBaseTick (hp : s.power ≠ .off) : exec .timeBaseTick s = .next s.tick := s.powered_on _ hp

theorem exec_clkPeriod_last (h : s.timeBase = 63) : exec .clkPeriod s = exec .timeBaseTick s :=
  congrArg s.powered (if_pos (by rw [h]; rfl))

theorem exec_clkPeriod_other (hp : s.power ≠ .off) (h : s.timeBase ≠ 63) :
    exec .clkPeriod s = .next { s with timeBase := s.timeBase + 1 } := by
  have hlast : ¬ s.timeBase.val + 1 = Config.clkPerTick := fun e => h (Fin.ext (Nat.succ.inj e))
  refine (s.powered_on _ hp).trans ?_
  rw [if_neg hlast]

/-- Without power CLK periods pass over the part (assumption 4). -/
theorem runAll_clkPeriod_off (hp : s.power = .off) (n : Nat) : runAll (List.replicate n .clkPeriod) s = .next s := by
  have hone : exec .clkPeriod s = .next s := congrArg Host.Outcome.next (if_pos hp)
  induction n with
  | zero => rfl
  | succ n ih => rwa [List.replicate_succ, runAll, hone]

/-- The CLK periods that remain to the 64th raise the count, and the last of them is the tick (R193). -/
theorem runAll_clkPeriod_on (hp : s.power ≠ .off) {n : Nat} (h : s.timeBase.val + n = 63) :
    runAll (List.replicate (n + 1) .clkPeriod) s = .next s.tick := by
  induction n generalizing s with
  | zero =>
    rw [List.replicate_one, runAll, exec_clkPeriod_last (Fin.ext h), exec_timeBaseTick hp]
    rfl
  | succ n ih =>
    have hne : s.timeBase ≠ 63 := fun e => by
      rw [e, show (63 : Fin 64).val = 63 from rfl] at h
      omega
    have hval : (s.timeBase + 1).val = s.timeBase.val + 1 := Fin.val_add_one_of_lt' (by omega)
    rw [List.replicate_succ, runAll, exec_clkPeriod_other hp hne]
    exact ih (s := { s with timeBase := s.timeBase + 1 }) hp (by rw [hval]; omega)

end State

/-- Settles O45: a tick on every record and timer, the CLK periods up to it by induction on how many remain, and the
poll timer that has run down. -/
theorem timersCountAndExpire : Obligations.TimersCountAndExpire := by
  refine ⟨⟨fun s hp => ?_, fun s hp h => State.exec_clkPeriod_other hp h, fun s h => State.exec_clkPeriod_last h,
    fun s => ?_⟩, fun s d hp => ⟨fun h => ?_, fun h => ?_⟩⟩
  · have hticks : OpRecord.tick = _ := funext OpRecord.tick_eq
    rw [State.exec_timeBaseTick hp, State.tick]
    unfold Tracker.tick
    rw [hticks]
    rfl
  · by_cases hp : s.power = .off
    · rw [State.runAll_clkPeriod_off hp]
      exact (congrArg Host.Outcome.next (if_pos hp)).symm
    · have hremain : 64 - s.timeBase.val = 63 - s.timeBase.val + 1 := by omega
      rw [hremain, State.runAll_clkPeriod_on hp (by omega), State.exec_timeBaseTick hp]
  · refine (s.powered_on _ hp).trans ?_
    rw [if_pos h]
    rfl
  · refine (s.powered_on _ hp).trans ?_
    rw [if_neg h]

/-! ## Deadline and suspend settle expiry (R55, R60, R79) -/

namespace Tracker

variable {t : Tracker} {top : OpRecord} {rest : List OpRecord}

/-- The deadline of the top record of a working tracker, where its busy time counts (R55, R60). -/
theorem deadlineDue_eq (ht : t.state = .running ∨ t.state = .suspending) (hs : t.stack = top :: rest)
    (he : top.endStatus = none) (hstate : top.state ≠ .suspended) :
    t.deadlineDue = if top.deadlineDue = true then some (top, rest) else none := by
  have hcounting : top.counting = true := OpRecord.counting_iff.mpr ⟨he, hstate⟩
  obtain ht | ht := ht <;>
  · rw [deadlineDue, ht, hs]
    exact if_congr (and_iff_right hcounting) rfl rfl

/-- The suspend settle timer of a SUSPENDING tracker whose top record is not ending (R79). -/
theorem settleDue_eq (ht : t.state = .suspending) (hs : t.stack = top :: rest) (he : top.endStatus = none) :
    t.settleDue = if t.suspendSettle = some 0 then some (top, rest) else none := by
  rw [settleDue, ht, hs]
  exact if_congr (and_iff_right (OpRecord.not_ending he)) rfl rfl

end Tracker

/-- Settles O46: the deadline and the settle timer, each due or not. -/
theorem timeoutsEnterRecovering : Obligations.TimeoutsEnterRecovering := by
  intro s d top rest hp hs he
  refine ⟨fun ht hstate => ?_, fun ht => ?_⟩
  · have hdue := Tracker.deadlineDue_eq ht hs he hstate
    refine ⟨fun h => ?_, fun h => ?_⟩ <;> refine (s.powered_on _ hp).trans ?_
    · rw [hdue, if_pos h]
      rfl
    · rw [hdue, if_neg (Bool.eq_false_iff.mp h)]
  · have hdue := Tracker.settleDue_eq ht hs he
    refine ⟨fun h => ?_, fun h => ?_⟩ <;> refine (s.powered_on _ hp).trans ?_
    · rw [hdue, if_pos h]
      rfl
    · rw [hdue, if_neg h]

/-! ## The end of a recovery (R64, R66) -/

/-- Settles O47: the recovery that does not end in quarantine. -/
theorem recoveryEndsIdle : Obligations.RecoveryEndsIdle := by
  intro s d hp ht htimer h
  refine (s.powered_on _ hp).trans ?_
  rw [if_pos ⟨ht, htimer⟩, if_neg (fun ⟨hc, hn⟩ => h.elim (· hc) (· hn))]
  rfl

namespace State

/-- Waiting requests are answered one after another, the first first (R66). -/
theorem answerFaults_eq_foldl (s : State) (l : List Request) : s.answerFaults l
    = l.foldl (fun u r => u.answer r.port (plainResponse r.work.kind r.tag .deviceFault) r.window r.device) s := by
  induction l generalizing s with
  | nil => rfl
  | cons r l ih => exact ih _

theorem answerFaults_append (s : State) (l l' : List Request) :
    s.answerFaults (l ++ l') = (s.answerFaults l).answerFaults l' := by
  simp only [answerFaults_eq_foldl, List.foldl_append]

/-- An answer does not look at the port queues. -/
theorem answer_setQueue (s : State) (q : Port) (l : List Request) (p : Port) (m : Message) (w : WindowNo)
    (d : Device) : (s.answer p m w d).setQueue q l = (s.setQueue q l).answer p m w d :=
  apply_ite (fun u : State => u.setQueue q l) _ _ _

theorem answerFaults_setQueue (s : State) (q : Port) (l : List Request) (rs : List Request) :
    (s.answerFaults rs).setQueue q l = (s.setQueue q l).answerFaults rs := by
  induction rs generalizing s with
  | nil => rfl
  | cons r rs ih => rw [answerFaults, ih, answer_setQueue, answerFaults]

/-- Both drains: the queues keep the other devices' requests, and the device's are answered, port A's before port B's
(R66, assumption 22). -/
theorem drain_both (s : State) (d : Device) : (s.drain d .A).drain d .B
    = ((s.setQueue .A ((s.queue .A).filter fun r => r.device != d)).setQueue .B
        ((s.queue .B).filter fun r => r.device != d)).answerFaults
          ((s.queue .A ++ s.queue .B).filter fun r => r.device == d) := by
  have hB : (s.drain d .A).queue .B = s.queue .B := drain_queue d .A .B
  rw [drain, hB, drain, answerFaults_setQueue, List.filter_append, answerFaults_append]

end State

/-- Settles O48: the FAULTED tracker, both drains as one fold over the two queues, and the notice. -/
theorem quarantineDrainsQueues : Obligations.QuarantineDrainsQueues := by
  intro s d hp ht htimer hcause hcount faulted drained
  refine (s.powered_on _ hp).trans ?_
  rw [if_pos ⟨ht, htimer⟩, if_pos ⟨hcause, hcount⟩, State.quarantine, State.drain_both, State.answerFaults_eq_foldl]
  rfl

end Sys2Proof.Machine
end

section
/-! SUPPORT. STATUS_READ answered with the part as it stands, and the ABORT of an op record. -/

namespace Sys2Proof.Machine

/-! ## STATUS_READ (R71, R129, R164, R165) -/

namespace State

variable {s : State} {p q : Port} {tag : Byte} {d : Device}

theorem snapshot_devices (s : State) (d : Device) : s.snapshot.devices[d] = (s.tracker d).report :=
  Vector.getElem_map ..

theorem snapshot_ports (s : State) (q : Port) : s.snapshot.ports.get q = s.portStatus q := by
  cases q <;> rfl

/-- The report of a port counts the reservation that its own request has taken (R122, R129). -/
theorem portStatus_accept (p q : Port) : (s.accept p).portStatus q =
    { s.portStatus q with reservations := (s.out q).reservations + if q = p then 1 else 0 } := by
  rw [portStatus, accept_out]
  split
  · next h =>
    subst h
    rfl
  · rfl

theorem attentionLaw_clearCounts (h : AttentionLaw s) : AttentionLaw s.clearCounts := h

/-- STATUS_READ that may be answered: the snapshot of the accepted state, on the state with its counts cleared where
that was asked for (R164, R165). -/
theorem exec_statusRead {clear : Bool} (h : AttentionLaw s) (ha : s.Accepts p tag)
    (hc : clear = true → p = s.manager) : exec (.statusRead p tag clear) s
      = .next ((if clear then s.clearCounts else s).answered p tag
        (.response .statusRead tag .done (.status (s.accept p).snapshot))) := by
  have hauth : ¬ (clear = true ∧ p ≠ s.manager) := fun ⟨h₁, h₂⟩ => h₂ (hc h₁)
  refine (powered_intake ha.on ha.verdict_control).trans (congrArg _ ?_)
  rw [statusReadDo, accept_manager, if_neg hauth]
  cases clear with
  | false => exact reply_accepted h ha.operating ..
  | true => exact reply_accepted (s := s.clearCounts) (attentionLaw_clearCounts h) ha.operating ..

end State

/-- Settles O26: the record is the snapshot of the state that holds the request's reservation. -/
theorem statusReadReports : Obligations.StatusReadReports := by
  intro s p tag clear h ha hc
  refine ⟨(s.accept p).snapshot, ?_, rfl, rfl, rfl, ha.operating, fun d => ?_, fun q => ?_⟩
  · rw [State.exec_statusRead h ha hc]
    rfl
  · rw [State.snapshot_devices]
    rfl
  · rw [State.snapshot_ports, State.portStatus_accept]
    rfl

/-! ## The target of an ABORT among the outstanding requests (R117, R171) -/

theorem OpRecord.isTarget_iff {rec : OpRecord} {q : Port} {tag : Byte} :
    rec.isTarget q tag = true ↔ rec.port = q ∧ rec.tag = tag ∧ rec.endStatus = none := by
  simp [isTarget, ending, and_assoc]

/-- Two records of one port do not carry the same tag. -/
def OpRecord.TagsDiffer (q : Port) (x y : OpRecord) : Prop := x.port = q → y.port = q → x.tag ≠ y.tag

theorem OpRecord.TagsDiffer.symm {q : Port} {x y : OpRecord} (h : x.TagsDiffer q y) : y.TagsDiffer q x :=
  fun hy hx e => h hx hy e.symm

namespace TagLaw

variable {s : State} {q : Port} {d : Device} {rec : OpRecord}

theorem unanswered_nodup (h : TagLaw s) (q : Port) : (s.unansweredTags q).Nodup := (List.nodup_append.mp (h q)).1

/-- Tags of the op records of a port differ (R117). -/
theorem records_pairwise (h : TagLaw s) (q : Port) : s.records.Pairwise (OpRecord.TagsDiffer q) := by
  have hrecords := (List.nodup_append.mp (h.unanswered_nodup q)).2.1
  rw [List.Nodup, List.pairwise_map, List.pairwise_filter] at hrecords
  exact hrecords.imp fun hne hx hy => hne (beq_iff_eq.mpr hx) (beq_iff_eq.mpr hy)

/-- A tag of a port names at most one record (R117). -/
theorem record_unique (h : TagLaw s) {e : Device} {x : OpRecord} (hrec : rec ∈ (s.tracker d).stack)
    (hport : rec.port = q) (hx : x ∈ (s.tracker e).stack) (hxport : x.port = q) (hxtag : x.tag = rec.tag) :
    e = d ∧ x = rec := by
  obtain ⟨hstack, htrackers⟩ := List.pairwise_flatMap.mp (h.records_pairwise q)
  have hof : ∀ a b : Device, a < b → ∀ y ∈ (s.tracker a).stack, ∀ z ∈ (s.tracker b).stack, y.TagsDiffer q z :=
    fun a b hab => List.pairwise_iff_getElem.mp htrackers a b (by simp) (by simp) hab
  have hdevice : e = d := by
    obtain hlt | heq | hlt := lt_trichotomy e d
    · exact absurd hxtag (hof e d hlt x hx rec hrec hxport hport)
    · exact heq
    · exact absurd hxtag.symm (hof d e hlt rec hrec x hx hport hxport)
  subst hdevice
  have hpair : (s.tracker e).stack.Pairwise (OpRecord.TagsDiffer q) :=
    hstack _ (Vector.mem_toList_iff.mpr (Vector.getElem_mem e.isLt))
  refine ⟨rfl, by_contra fun hne => ?_⟩
  have hsymm : Std.Symm (OpRecord.TagsDiffer q) := ⟨fun _ _ => OpRecord.TagsDiffer.symm⟩
  exact hpair.forall hx hrec hne hxport hport hxtag

/-- A record's tag is no waiting request's and not that of the request in flight (R117). -/
theorem tag_of_record (h : TagLaw s) (hrec : rec ∈ (s.tracker d).stack) (hport : rec.port = q) {r : Request}
    (hr : r ∈ s.queue q ∨ r ∈ s.flight ∧ r.port = q) : r.tag ≠ rec.tag := by
  have hrecord : rec.tag ∈ (s.records.filter fun x => x.port == q).map OpRecord.tag :=
    List.mem_map_of_mem (List.mem_filter.mpr ⟨mem_records.mpr ⟨d, hrec⟩, beq_iff_eq.mpr hport⟩)
  refine (List.nodup_append.mp (h.unanswered_nodup q)).2.2 _ (List.mem_append.mpr ?_) _ hrecord
  exact hr.imp List.mem_map_of_mem fun ⟨hf, hp⟩ =>
    List.mem_map_of_mem (List.mem_filter.mpr ⟨hf, beq_iff_eq.mpr hp⟩)

end TagLaw

namespace State

variable {s : State} {p q : Port} {tag : Byte} {d : Device} {rec : OpRecord}

theorem jobTarget_flight {r : Request} (hpart : s.part = .operating) (h : s.jobTarget q tag = some r) :
    r ∈ s.flight ∧ r.port = q ∧ r.tag = tag := by
  unfold jobTarget at h
  split at h
  · next r' sel hj =>
    obtain ⟨hr, e⟩ := Option.ite_none_right_eq_some.mp h
    cases e
    rw [flight_of_request hpart hj]
    exact ⟨List.mem_singleton_self _, hr⟩
  · cases h

/-- The search for a record that is not ending finds its device (R171). -/
theorem findTarget_of_record (h : TagLaw s) (hpart : s.part = .operating) (hrec : rec ∈ (s.tracker d).stack)
    (hport : rec.port = q) (he : rec.endStatus = none) : s.findTarget q rec.tag = .record d := by
  have hqueue : (s.queue q).find? (fun r => r.tag == rec.tag) = none := List.find?_eq_none.mpr fun r hr htag =>
    h.tag_of_record hrec hport (.inl hr) (beq_iff_eq.mp htag)
  have hjob : s.jobTarget q rec.tag = none := Option.eq_none_iff_forall_ne_some.mpr fun r hr => by
    obtain ⟨hf, hp, htag⟩ := jobTarget_flight hpart hr
    exact h.tag_of_record hrec hport (.inr ⟨hf, hp⟩) htag
  have hdevice : s.lowestDevice (fun t => t.stack.any fun x => x.isTarget q rec.tag) = some d := by
    have htarget : rec.isTarget q rec.tag = true := OpRecord.isTarget_iff.mpr ⟨hport, rfl, he⟩
    refine lowestDevice_eq (List.any_eq_true.mpr ⟨rec, hrec, htarget⟩) fun e hlt => ?_
    refine List.any_eq_false.mpr fun x hx htarget => ?_
    obtain ⟨hp, htag, -⟩ := OpRecord.isTarget_iff.mp htarget
    exact hlt.ne (h.record_unique hrec hport hx hp htag).1
  rw [findTarget, hqueue, hjob]
  dsimp only
  rw [show allDevices.find? _ = some d from hdevice]

end State

/-! ## ABORT of an op record (R62, R175) -/

/-- The one record of the port with the tag is ended ABORTED, the others of its stack LOST (R62, R175). -/
theorem Tracker.abortRecord_eq {t : Tracker} {q : Port} {rec : OpRecord} (hport : rec.port = q)
    (he : rec.endStatus = none) (hunique : ∀ x ∈ t.stack, x.port = q → x.tag = rec.tag → x = rec) :
    t.abortRecord q rec.tag = { t with
      state := .recovering
      stack := t.stack.map fun x =>
        if x = rec then { x with abortMark := true, deadlineDue := false, endStatus := some .aborted }
        else { x with deadlineDue := false, endStatus := some (x.endStatus.getD .lost) }
      wantPoll := false
      wantSuspend := false
      wantResume := false
      wantReset := true
      pollTimer := none
      suspendSettle := none
      cause := some .aborted } := by
  rw [abortRecord, recover]
  dsimp only
  rw [List.map_map]
  congr 1
  refine List.map_congr_left fun x hx => ?_
  rw [Function.comp_apply, OpRecord.abortIfTarget]
  by_cases hxr : x = rec
  · rw [if_pos hxr, if_pos (OpRecord.isTarget_iff.mpr (by rw [hxr]; exact ⟨hport, rfl, he⟩))]
    rfl
  · have hother : ¬ x.isTarget q rec.tag = true := fun htarget => by
      obtain ⟨hp, htag, -⟩ := OpRecord.isTarget_iff.mp htarget
      exact hxr (hunique x hx hp htag)
    rw [if_neg hxr, if_neg hother]

/-- An ABORT whose target is an op record: the record's tracker goes into recovery, the ABORT is answered, and the
event closes (R171, R175). -/
theorem State.exec_abort_record {s : State} {p q : Port} {tag u : Byte} {d : Device} (ha : s.Accepts p tag)
    (hauth : q = p ∨ p = s.manager) (ht : s.findTarget q u = .record d) :
    exec (.abort p tag q u) s = .next ((s.setTracker d ((s.tracker d).abortRecord q u)).answered p tag
      (.response .abort tag .done .absent)).close := by
  have htarget : (s.accept p).findTarget q u = .record d := ht
  have hallowed : ¬ (q ≠ p ∧ p ≠ s.manager) := fun ⟨h₁, h₂⟩ => hauth.elim h₁ h₂
  refine (powered_intake ha.on ha.verdict_control).trans (congrArg _ ?_)
  rw [abortDo, accept_manager, if_neg hallowed, htarget]
  dsimp only
  rw [close_writeReceipt, responded_close, responded, ← accept_respond]
  rfl

/-- Settles O29: the tag names one record, which the search finds. -/
theorem abortEndsOpRecord : Obligations.AbortEndsOpRecord := by
  intro s p q tag d rec ha hauth h hrec hport he
  have hunique : ∀ x ∈ (s.tracker d).stack, x.port = q → x.tag = rec.tag → x = rec := fun x hx hp htag =>
    (h.record_unique hrec hport hx hp htag).2
  rw [State.exec_abort_record ha hauth (State.findTarget_of_record h ha.operating hrec hport he),
    Tracker.abortRecord_eq hport he hunique]
  rfl

end Sys2Proof.Machine
end

section
/-! SUPPORT. Who uses a suspended device, and for whom one is suspended: eligibility (R98, R99) and the wants for
SUSPEND and RESUME (R73, R74, R86, R87). -/

namespace Sys2Proof.Machine

/-! ## The oldest request of a queue for each device (R97) -/

/-- The leaders of a queue, with some devices already met: one device's request leads when its device was not met and
no older request of the queue is for it. -/
theorem mem_leadersFrom {seen : List Device} {q : List Request} {r : Request} :
    r ∈ leadersFrom seen q ↔
      r.device ∉ seen ∧ ∃ pre post, q = pre ++ r :: post ∧ ∀ x ∈ pre, x.device ≠ r.device := by
  induction q generalizing seen with
  | nil => simp [leadersFrom]
  | cons y q ih =>
    have hsplit : (∃ pre post, y :: q = pre ++ r :: post ∧ ∀ x ∈ pre, x.device ≠ r.device)
        ↔ r = y ∨ y.device ≠ r.device
          ∧ ∃ pre post, q = pre ++ r :: post ∧ ∀ x ∈ pre, x.device ≠ r.device := by
      constructor
      · rintro ⟨pre, post, hq, hpre⟩
        cases pre with
        | nil => exact .inl (List.cons.inj hq).1.symm
        | cons z pre =>
          obtain ⟨rfl, hrest⟩ := List.cons.inj hq
          exact .inr ⟨hpre _ List.mem_cons_self, pre, post, hrest, fun x hx => hpre x (List.mem_cons_of_mem _ hx)⟩
      · rintro (rfl | ⟨hy, pre, post, rfl, hpre⟩)
        · exact ⟨[], q, rfl, nofun⟩
        · exact ⟨y :: pre, post, rfl, List.forall_mem_cons.mpr ⟨hy, hpre⟩⟩
    rw [hsplit, leadersFrom]
    split
    · next hseen =>
      rw [ih]
      constructor
      · exact fun ⟨hr, h⟩ => ⟨hr, .inr ⟨fun e => hr (e ▸ hseen), h⟩⟩
      · rintro ⟨hr, rfl | ⟨-, h⟩⟩
        · exact absurd hseen hr
        · exact ⟨hr, h⟩
    · next hnew =>
      rw [List.mem_cons, ih, List.mem_cons, not_or]
      constructor
      · rintro (rfl | ⟨⟨hne, hr⟩, h⟩)
        · exact ⟨hnew, .inl rfl⟩
        · exact ⟨hr, .inr ⟨Ne.symm hne, h⟩⟩
      · rintro ⟨hr, rfl | ⟨hne, h⟩⟩
        · exact .inl rfl
        · exact .inr ⟨⟨Ne.symm hne, hr⟩, h⟩

theorem mem_leaders {q : List Request} {r : Request} :
    r ∈ leaders q ↔ ∃ pre post, q = pre ++ r :: post ∧ ∀ x ∈ pre, x.device ≠ r.device := by
  rw [leaders, mem_leadersFrom]
  exact and_iff_right List.not_mem_nil

/-- A waiting request for the device before which no older request of its port is for the device (R97). -/
def State.Leads (s : State) (d : Device) (r : Request) : Prop :=
  r.device = d ∧ ∃ p pre post, s.queue p = pre ++ r :: post ∧ ∀ x ∈ pre, x.device ≠ d

theorem State.leads_iff {s : State} {d : Device} {r : Request} :
    s.Leads d r ↔ r.device = d ∧ (r ∈ leaders (s.queue .A) ∨ r ∈ leaders (s.queue .B)) := by
  rw [mem_leaders, mem_leaders, Leads]
  refine and_congr_right ?_
  rintro rfl
  constructor
  · rintro ⟨_ | _, h⟩
    · exact .inl h
    · exact .inr h
  · rintro (h | h)
    · exact ⟨.A, h⟩
    · exact ⟨.B, h⟩

/-- A search of both queues' leaders for one device's request is a search of the requests that lead for it. -/
theorem State.any_leaders_iff {s : State} {d : Device} {f : Request → Bool} (hf : ∀ r, f r = true → r.device = d) :
    ((leaders (s.queue .A)).any f || (leaders (s.queue .B)).any f) = true ↔ ∃ r, s.Leads d r ∧ f r = true := by
  rw [Bool.or_eq_true, List.any_eq_true, List.any_eq_true, ← exists_or]
  refine exists_congr fun r => ?_
  rw [leads_iff, ← or_and_right, and_assoc]
  exact ⟨fun ⟨hr, h⟩ => ⟨hf r h, hr, h⟩, fun ⟨_, hr, h⟩ => ⟨hr, h⟩⟩

/-! ## Requests beside a suspended record, and requests that suspend a running one (R73, R83, R98) -/

theorem runsBeside_iff {prof : Profile} {rec : OpRecord} {r : Request} :
    runsBeside prof rec r = true ↔ overlaps rec.start rec.length r.start r.count = false
      ∧ (r.work = .read
        ∨ (∃ data, r.work = .program data) ∧ rec.kind = .erase ∧ prof.programInEraseSuspend = true) := by
  rw [runsBeside, OpRecord.overlapsRequest]
  split
  · next hw => simp [hw]
  · next hw hk => simp [hw, hk, and_comm]
  · next hw hk => simp [hw, hk]
  · next hw => simp [hw]

/-- The kinds and the permissions of condition 3 of R73. -/
theorem suspendPermitted_iff {prof : Profile} {rec : OpRecord} {r : Request} :
    suspendPermitted prof rec r = true ↔
      r.work = .read ∧ (rec.kind = .program ∧ prof.suspendProgramAllowed = true
          ∨ rec.kind = .erase ∧ prof.suspendEraseAllowed = true)
      ∨ (∃ data, r.work = .program data) ∧ rec.kind = .erase ∧ prof.suspendEraseAllowed = true
        ∧ prof.programInEraseSuspend = true := by
  rw [suspendPermitted]
  split
  · next hw hk => simp [hw, hk]
  · next hw hk => simp [hw, hk]
  · next hw hk => simp [hw, hk]
  · next hw hk => simp [hw, hk]
  · next hw => simp [hw]

namespace Tracker

variable {t : Tracker} {prof : Profile} {r : Request} {rec : OpRecord}

theorem wantsAny_eq_false_iff : t.wantsAny = false ↔
    t.wantPoll = false ∧ t.wantSuspend = false ∧ t.wantResume = false ∧ t.wantReset = false := by
  simp only [wantsAny, Bool.or_eq_false_iff, and_assoc]

theorem admits_of_suspended (hs : t.state = .suspended) (hstack : t.stack = [rec]) :
    t.admits prof r = runsBeside prof rec r := by
  rw [admits, hs, hstack]

/-- The table of R98. -/
theorem admits_iff : t.admits prof r = true ↔
    t.state = .idle ∨ t.state = .suspended ∧ ∃ rec, t.stack = [rec] ∧ runsBeside prof rec r = true := by
  constructor
  · intro h
    rw [admits] at h
    split at h
    · next hs => exact .inl hs
    · next rec hs hstack => exact .inr ⟨hs, rec, hstack, h⟩
    · cases h
  · rintro (hs | ⟨hs, rec, hstack, h⟩)
    · rw [admits, hs]
    · rwa [admits_of_suspended hs hstack]

end Tracker

namespace State

variable {s : State} {d : Device} {r : Request}

theorem jobFor_eq_false_iff : s.jobFor d = false ↔ ∀ j, s.job = some j → j.kind.device ≠ d := by
  rw [jobFor]
  split
  · next j hj => simp [hj]
  · next hj => simp [hj]

theorem suspendingJob_eq_false_iff :
    s.suspendingJob d = false ↔ ∀ sel, s.job ≠ some { kind := .tracker .suspend d, selects := sel } := by
  rw [suspendingJob]
  split
  · next j hj =>
    obtain ⟨k, sel⟩ := j
    simp [hj]
  · next hj => simp [hj]

/-- A request is eligible when its tracker admits it, no job for its device is in progress, and its tracker wants none
(R98, R99). -/
theorem eligible_iff : s.eligible r = true ↔
    (s.tracker r.device).admits (s.profile r.device) r = true ∧ s.jobFor r.device = false
      ∧ (s.tracker r.device).wantsAny = false := by
  simp only [eligible, Bool.and_eq_true, Bool.not_eq_true', and_assoc]

/-! ## The wants of one tracker (R73, R74, R86, R87) -/

/-- Conditions 2 to 5 of R73. -/
theorem candidate_iff : s.candidate d r = true ↔ r.device = d ∧ (s.tracker d).state = .running
    ∧ ∃ rec, (s.tracker d).stack = [rec] ∧ rec.state = .running ∧ rec.endStatus = none
      ∧ suspendPermitted (s.profile d) rec r = true ∧ overlaps rec.start rec.length r.start r.count = false
      ∧ rec.suspendCount < (s.profile d).suspendLimit := by
  rw [candidate, Bool.and_eq_true, beq_iff_eq]
  refine and_congr_right fun _ => ?_
  split
  · next rec hs hstack =>
    simp [hs, hstack, OpRecord.ending, OpRecord.overlapsRequest, and_assoc]
  · next hother => exact iff_of_false nofun fun ⟨hs, rec, hstack, _⟩ => hother rec hs hstack

theorem hasCandidate_iff : s.hasCandidate d = true ↔ ∃ r, s.Leads d r ∧ s.candidate d r = true :=
  any_leaders_iff fun _ h => (candidate_iff.mp h).1

theorem hasUser_iff :
    s.hasUser d = true ↔ ∃ r, s.Leads d r ∧ (s.tracker d).admits (s.profile d) r = true := by
  rw [hasUser, any_leaders_iff (d := d) fun r h => by simpa using (Bool.and_eq_true_iff.mp h).1]
  refine exists_congr fun r => and_congr_right fun hleads => ?_
  rw [beq_iff_eq.mpr hleads.1, Bool.true_and]

/-- Of a device SUSPENDED with one record, the users are the leading requests that may run beside it (R86). -/
theorem hasUser_eq_false_iff {rec : OpRecord} (hs : (s.tracker d).state = .suspended)
    (hstack : (s.tracker d).stack = [rec]) :
    s.hasUser d = false ↔ ∀ r, s.Leads d r → ¬ runsBeside (s.profile d) rec r = true := by
  simp only [Bool.eq_false_iff, ne_eq, hasUser_iff, Tracker.admits_of_suspended hs hstack, not_exists, not_and]

theorem rewant_wantSuspend_iff : (s.rewant d (s.tracker d)).wantSuspend = true ↔
    (s.tracker d).state = .running ∧ s.suspendingJob d = false ∧ ∃ r, s.Leads d r ∧ s.candidate d r = true := by
  simp only [rewant, Bool.and_eq_true, Bool.not_eq_true', beq_iff_eq, hasCandidate_iff, and_assoc]
  rw [and_comm (b := s.suspendingJob d = false)]

theorem rewant_wantResume_iff : (s.rewant d (s.tracker d)).wantResume = true ↔
    (s.tracker d).state = .suspended ∧ ∃ rec, (s.tracker d).stack = [rec]
      ∧ ((s.tracker d).wantResume = true ∨ s.jobFor d = false ∧ s.hasUser d = false) := by
  simp only [rewant, Bool.and_eq_true, Bool.or_eq_true, Bool.not_eq_true', beq_iff_eq, List.length_eq_one_iff,
    and_assoc, exists_and_right]

end State

/-- Settles O36: the tracker's admission by the table of R98, no job for the device, and no want. -/
theorem eligibleByTrackerState : Obligations.EligibleByTrackerState := by
  intro s r
  rw [State.eligible_iff, Tracker.admits_iff, Tracker.wantsAny_eq_false_iff, State.jobFor_eq_false_iff]
  simp only [runsBeside_iff]
  constructor
  · rintro ⟨hadmits, hjob, hpoll, hsuspend, hresume, hreset⟩
    refine ⟨hpoll, hsuspend, hresume, hreset, hjob, hadmits.imp_right ?_⟩
    exact fun ⟨hs, rec, hstack, hover, hkind⟩ =>
      ⟨hs, rec, hstack, hover, hkind.imp_right fun ⟨hw, hk, hp⟩ => ⟨hk, hp, hw⟩⟩
  · rintro ⟨hpoll, hsuspend, hresume, hreset, hjob, hadmits⟩
    refine ⟨hadmits.imp_right ?_, hjob, hpoll, hsuspend, hresume, hreset⟩
    exact fun ⟨hs, rec, hstack, hover, hkind⟩ =>
      ⟨hs, rec, hstack, hover, hkind.imp_right fun ⟨hk, hp, hw⟩ => ⟨hw, hk, hp⟩⟩

/-- Settles O49: each tracker after the event is its `rewant`, whose two wants are those of R73, R74 and of R86, R87. -/
theorem wantsFollowTheQueues : Obligations.WantsFollowTheQueues := by
  intro s d t t' prof leads
  have ht : t' = s.rewant d t := s.reconsider_tracker d
  refine ⟨ht ▸ rfl, rfl, ?_, ?_⟩
  · rw [ht, State.rewant_wantSuspend_iff, State.suspendingJob_eq_false_iff]
    simp only [State.candidate_iff, suspendPermitted_iff]
    refine and_congr_right fun hs => and_congr_right fun _ => ?_
    constructor
    · rintro ⟨r, hleads, -, -, rec, hstack, hstate, hend, hkind, hover, hlimit⟩
      exact ⟨rec, r, hstack, hstate, hend, hleads, hkind, hover, hlimit⟩
    · rintro ⟨rec, r, hstack, hstate, hend, hleads, hkind, hover, hlimit⟩
      exact ⟨r, hleads, hleads.1, hs, rec, hstack, hstate, hend, hkind, hover, hlimit⟩
  · rw [ht, State.rewant_wantResume_iff, State.jobFor_eq_false_iff]
    refine and_congr_right fun hs => exists_congr fun rec => and_congr_right fun hstack => ?_
    rw [State.hasUser_eq_false_iff hs hstack]
    simp only [runsBeside_iff]
    rfl

end Sys2Proof.Machine
end

section
/-! SUPPORT. The grant of a waiting request by port alternation and age (R96, R97, R102, R103), and the completion of a
READ job in operation (R105, R106). -/

namespace Sys2Proof.Machine

/-! ## The oldest request of a queue that passes the start order and a test (R96, R97) -/

/-- The leaders older than a leader are the leaders of the queue before it. -/
theorem leadersFrom_append_cons {seen : List Device} {pre : List Request} {r : Request} (hseen : r.device ∉ seen)
    (hpre : ∀ x ∈ pre, x.device ≠ r.device) (post : List Request) :
    ∃ rest, leadersFrom seen (pre ++ r :: post) = leadersFrom seen pre ++ r :: rest := by
  induction pre generalizing seen with
  | nil => exact ⟨_, if_neg hseen⟩
  | cons x pre ih =>
    obtain ⟨hx, hpre⟩ := List.forall_mem_cons.mp hpre
    rw [List.cons_append, leadersFrom, leadersFrom]
    split
    · exact ih hseen hpre
    · obtain ⟨rest, hrest⟩ := ih (List.not_mem_cons_of_ne_of_not_mem hx.symm hseen) hpre
      exact ⟨rest, congrArg (x :: ·) hrest⟩

theorem leaders_append_cons {pre : List Request} {r : Request} (hpre : ∀ x ∈ pre, x.device ≠ r.device)
    (post : List Request) : ∃ rest, leaders (pre ++ r :: post) = leaders pre ++ r :: rest :=
  leadersFrom_append_cons List.not_mem_nil hpre post

/-- A search of the leaders finds none when each request that leads for its device fails the test. -/
theorem find?_leaders_eq_none {f : Request → Bool} {q : List Request}
    (h : ∀ pre x post, q = pre ++ x :: post → (∀ y ∈ pre, y.device ≠ x.device) → f x = false) :
    (leaders q).find? f = none := by
  refine List.find?_eq_none.mpr fun x hx => ?_
  obtain ⟨pre, post, hq, hpre⟩ := mem_leaders.mp hx
  exact Bool.eq_false_iff.mp (h pre x post hq hpre)

/-- A search of the leaders finds the one that passes the test and before which no leader does. -/
theorem find?_leaders_eq_some {f : Request → Bool} {pre post : List Request} {r : Request}
    (hpre : ∀ x ∈ pre, x.device ≠ r.device) (hr : f r = true) (hold : (leaders pre).find? f = none) :
    (leaders (pre ++ r :: post)).find? f = some r := by
  obtain ⟨rest, hrest⟩ := leaders_append_cons hpre post
  rw [hrest, List.find?_append, hold, Option.none_or]
  exact List.find?_cons_of_pos hr

/-- A request that leads for its device is the first of its value in the queue, so its removal takes no older one. -/
theorem erase_leader {pre : List Request} {r : Request} (hpre : ∀ x ∈ pre, x.device ≠ r.device)
    (post : List Request) : (pre ++ r :: post).erase r = pre ++ post := by
  rw [List.erase_append_right _ fun hr => hpre r hr rfl, List.erase_cons_head]

theorem eq_other_of_ne : ∀ {p q : Port}, p ≠ q → p = q.other
  | .A, .B, _ | .B, .A, _ => rfl
  | .A, .A, h | .B, .B, h => absurd rfl h

namespace State

variable {s : State} {q : Port} {r : Request} {m : Bool}

/-! ## The grant of a request (R96, R102, R103) -/

/-- Class 4: with no job wanted the grant falls to the requests (R95). -/
theorem nextGrant_of_unwanted (h : ∀ d, (s.tracker d).wantsAny = false) :
    s.nextGrant = s.nextRequest.map fun r => .request r false := by
  simp only [Tracker.wantsAny_eq_false_iff, forall_and] at h
  obtain ⟨hpoll, hsuspend, hresume, hreset⟩ := h
  have hsr : s.lowestDevice (fun t => t.wantSuspend || t.wantResume) = none :=
    lowestDevice_none fun d => by rw [hsuspend, hresume, Bool.or_false]
  rw [nextGrant, lowestDevice_none hreset, hsr, lowestDevice_none hpoll]

/-- A port's oldest eligible request is the next one when the port is not the last-granted one, or the other port
offers none (R96). -/
theorem nextRequest_of_offered (hr : s.oldestEligible q = some r)
    (hother : q = s.lastGranted → s.oldestEligible q.other = none) : s.nextRequest = some r := by
  rw [nextRequest]
  by_cases hq : q = s.lastGranted
  · rw [← hq, hother hq, hr, Option.none_or]
  · rw [← eq_other_of_ne hq, hr, Option.some_or]

theorem nextRequest_eq_none (h : ∀ p, s.oldestEligible p = none) : s.nextRequest = none := by
  rw [nextRequest, h, h, Option.none_or]

/-- With nothing to be granted the arbiter waits (R94). -/
theorem exec_busGrant_none (hp : s.power ≠ .off) (hk : s.nextGrant = none) : exec .busGrant s = .next s := by
  refine (s.powered_on _ hp).trans (congrArg _ ?_)
  rw [busGrant, hk]
  cases s.job <;> rfl

/-- A request that leads for its device leaves the queue of its port, which keeps its order (R102, R103). -/
theorem grant_leader {pre post : List Request} (hq : s.queue r.port = pre ++ r :: post)
    (hpre : ∀ x ∈ pre, x.device ≠ r.device) : s.grant (.request r m) = { s with
      queues := s.queues.set r.port (pre ++ post)
      lastGranted := r.port
      job := some { kind := .request r m, selects := requestSelects (s.profile r.device) r } } := by
  rw [grant, hq, erase_leader hpre]
  rfl

end State

/-- Settles O35: the offered port's oldest eligible request is the first leader of its queue that is eligible. -/
theorem requestGrantedByAlternationAndAge : Obligations.RequestGrantedByAlternationAndAge := by
  intro s hp hj hwants stuck
  have hgrant := State.nextGrant_of_unwanted hwants
  have hstuck : ∀ q, stuck q → (leaders q).find? s.eligible = none := fun _ h => find?_leaders_eq_none h
  constructor
  · rintro _ pre post r hq rfl hpre hr hold hother
    have holdest : s.oldestEligible r.port = some r := by
      rw [State.oldestEligible, hq]
      exact find?_leaders_eq_some hpre hr (hstuck pre hold)
    rw [State.nextRequest_of_offered holdest fun hlast => hstuck _ (hother hlast)] at hgrant
    rw [State.exec_busGrant hp hj hgrant, State.grant_leader hq hpre]
  · intro hA hB
    have hnone : s.nextRequest = none := State.nextRequest_eq_none fun
      | .A => hstuck _ hA
      | .B => hstuck _ hB
    rw [hnone] at hgrant
    exact State.exec_busGrant_none hp hgrant

/-! ## The bytes that a READ takes in (R38, R105, assumption 11) -/

namespace State

variable (s : State) (driven : List Byte) (count : Nat) {i : Nat}

@[simp] theorem takenIn_length : (s.takenIn driven count).length = count := by
  simp only [takenIn, List.length_map, List.length_range]

theorem takenIn_getElem? (hi : i < count) : (s.takenIn driven count)[i]? =
    some (driven.getD i (Config.busLineByte (s.freeCount + (i - driven.length)))) := by
  simp [takenIn, hi]

/-- The bytes that the device drives come first, in order. -/
theorem takenIn_of_driven (hi : i < count) (hd : i < driven.length) :
    (s.takenIn driven count)[i]? = driven[i]? := by
  rw [takenIn_getElem? s driven count hi, List.getD_eq_getElem _ _ hd, List.getElem?_eq_getElem hd]

/-- Each byte after them is the next free value. -/
theorem takenIn_of_free (hi : driven.length + i < count) :
    (s.takenIn driven count)[driven.length + i]? = some (Config.busLineByte (s.freeCount + i)) := by
  rw [takenIn_getElem? s driven count hi, List.getD_eq_default _ _ (Nat.le_add_right ..), Nat.add_sub_cancel_left]

variable {s} {r : Request} {m : Bool} {sel : List SelectPeriod}

/-- A READ job completes in operation: the bus is free, and the READ is answered in the same event (R105). -/
theorem exec_readJobComplete (hp : s.power ≠ .off) (hpart : s.part = .operating)
    (hj : s.job = some { kind := .request r m, selects := sel }) (hw : r.work = .read) :
    exec (.readJobComplete driven) s = .next ((((s.setJob none).countFree (r.count - driven.length)).answer r.port
      (s.readResponse r m driven) r.window r.device).close) := by
  refine (s.powered_on _ hp).trans (congrArg _ ?_)
  rw [readJobComplete, hj]
  dsimp only
  rw [if_pos hw, if_neg (by rw [hpart]; nofun)]

end State

/-- Settles O37: the response that the READ's mark chooses. -/
theorem readJobIsAnswered : Obligations.ReadJobIsAnswered := by
  intro s r m sel driven hp hpart hj hw free
  have hexec := State.exec_readJobComplete driven hp hpart hj hw
  constructor
  · rintro rfl
    exact hexec
  · rintro rfl
    exact ⟨s.takenIn driven r.count, s.takenIn_length driven r.count,
      fun i => s.takenIn_of_driven driven r.count, fun i => s.takenIn_of_free driven r.count, hexec⟩

end Sys2Proof.Machine
end

section
/-! SUPPORT. The verdict of intake on every request (R113 to R121), and the outstanding tags of a port (R117). -/

namespace Sys2Proof.Machine

/-! ## The request of a frame as intake sees it (R112, R113) -/

/-- The group in which intake puts a request (R112). -/
def FrameRequest.group : FrameRequest → Group
  | .null => .collect
  | .unknown => .unknown
  | .read .. | .program .. | .erase .. => .memory
  | .windowWrite .. | .windowRead _ | .profileWrite .. | .profileRead _ | .swap _ | .freeze | .handover
  | .statusRead _ | .abort .. | .warmReset _ => .control

/-- What an accepted request does on the state that holds its reservation (R122 to R124). -/
def FrameRequest.carryOut (p : Port) (tag : Byte) : FrameRequest → State → State
  | .null | .unknown => id
  | .read a n => fun s => s.memoryRequest p tag a (.read n.toNat)
  | .program a data => fun s => s.memoryRequest p tag a (.program data)
  | .erase a k => fun s => s.memoryRequest p tag a (.erase k.toNat)
  | .windowWrite n r => fun s => s.windowWriteDo p tag n r
  | .windowRead n => fun s => s.windowReadDo p tag n
  | .profileWrite n r => fun s => s.profileWriteDo p tag n r
  | .profileRead n => fun s => s.profileReadDo p tag n
  | .swap n => fun s => s.swapDo p tag n
  | .freeze => fun s => s.freezeDo p tag
  | .handover => fun s => s.handoverDo p tag
  | .statusRead c => fun s => s.statusReadDo p tag c
  | .abort q u => fun s => s.abortDo p tag q u
  | .warmReset e => fun s => s.warmResetDo p tag e

namespace FrameRequest

variable {q : FrameRequest}

theorem group_eq_collect_iff : q.group = .collect ↔ q = .null := by cases q <;> simp [group]

theorem group_eq_unknown_iff : q.group = .unknown ↔ q = .unknown := by cases q <;> simp [group]

theorem group_eq_memory_iff : q.group = .memory ↔ q.isMemory = true := by cases q <;> simp [group, isMemory]

end FrameRequest

/-- A command that is a request names a known kind. -/
theorem handed_ne_unknown {i : Instr} {p : Port} {tag : Byte} {q : FrameRequest} (h : handed i = some (p, tag, q)) :
    q ≠ .unknown := by
  unfold handed at h
  split at h <;> cases h <;> nofun

namespace State

variable {s : State} {p : Port} {tag : Byte} {g : Group}

/-- Every request goes through the same intake (R113). -/
theorem handRequest_eq (q : FrameRequest) : s.handRequest p tag q = s.intake p tag q.group (q.carryOut p tag) := by
  cases q <;> rfl

/-! ## The checks in their order (R113 to R120) -/

theorem verdict_resetting (h : s.part = .resetting) : s.intakeVerdict p tag g = .resetting := if_pos h

theorem verdict_collect (h : s.part = .operating) : s.intakeVerdict p tag .collect = .idleFrame := by
  simp [intakeVerdict, h]

theorem verdict_unknown (h : s.part = .operating) : s.intakeVerdict p tag .unknown = .unknownKind := by
  simp [intakeVerdict, h]

theorem verdict_tagBusy (h : s.part = .operating) (hc : g ≠ .collect) (hu : g ≠ .unknown)
    (ht : tag ∈ s.outstandingTags p) : s.intakeVerdict p tag g = .tagBusy := by
  simp [intakeVerdict, h, hc, hu, ht]

theorem verdict_queueFull (h : s.part = .operating) (ht : tag ∉ s.outstandingTags p) (hq : (s.queue p).length = 4) :
    s.intakeVerdict p tag .memory = .queueFull := by
  simp [intakeVerdict, h, ht, hq, Config.queueCapacity]

theorem verdict_noSlot (h : s.part = .operating) (hc : g ≠ .collect) (hu : g ≠ .unknown)
    (ht : tag ∉ s.outstandingTags p) (hq : g = .memory → (s.queue p).length ≠ 4) (ho : (s.out p).sum = 8) :
    s.intakeVerdict p tag g = .noSlot := by
  have hroom : ¬ (g = .memory ∧ (s.queue p).length = Config.queueCapacity) := fun ⟨hm, e⟩ => hq hm e
  simp [intakeVerdict, h, hc, hu, ht, hroom, ho, Config.outboundCapacity]

/-- A request that a check of intake refuses leaves its receipt and nothing else (R121). -/
theorem exec_receipted {i : Instr} {q : FrameRequest} {code : ReceiptCode} (hi : handed i = some (p, tag, q))
    (hp : s.power ≠ .off) (hv : s.intakeVerdict p tag q.group = code) (hc : code ≠ .accepted) :
    exec i s = .next (s.receipted p tag code) := by
  rw [exec_handed hi, s.powered_on _ hp, handRequest_eq]
  obtain ⟨_, e⟩ | ⟨ha, _⟩ := s.intake_cases p tag q.group (q.carryOut p tag)
  · rw [e, hv]
    rfl
  · exact absurd (hv.symm.trans ha) hc

/-! ## Outstanding tags (R117) -/

theorem mem_flight_iff {r : Request} (h : s.part = .operating) :
    r ∈ s.flight ↔ ∃ m sel, s.job = some { kind := .request r m, selects := sel } := by
  constructor
  · unfold flight
    intro hr
    split at hr
    · next x m sel _ hj =>
      cases List.mem_singleton.mp hr
      exact ⟨m, sel, hj⟩
    · cases hr
  · rintro ⟨m, sel, hj⟩
    rw [flight_of_request h hj]
    exact List.mem_singleton_self r

theorem mem_responseTags_iff {l : List Message} :
    tag ∈ l.filterMap Message.responseTag ↔ ∃ k st data, Message.response k tag st data ∈ l := by
  rw [List.mem_filterMap]
  constructor
  · rintro ⟨m, hm, ht⟩
    cases m with
    | response k t st data =>
      cases ht
      exact ⟨k, st, data, hm⟩
    | notice n => cases ht
  · rintro ⟨k, st, data, hm⟩
    exact ⟨_, hm, rfl⟩

/-- A tag is outstanding by a waiting request, the request in flight, an op record, or a queued response (R117). -/
theorem mem_outstandingTags_iff (h : s.part = .operating) : tag ∈ s.outstandingTags p ↔
    (∃ r ∈ s.queue p, r.tag = tag)
    ∨ (∃ r m sel, s.job = some { kind := .request r m, selects := sel } ∧ r.port = p ∧ r.tag = tag)
    ∨ (∃ d, ∃ rec ∈ (s.tracker d).stack, rec.port = p ∧ rec.tag = tag)
    ∨ ∃ k st data, Message.response k tag st data ∈ (s.out p).queue := by
  have hflight : tag ∈ (s.flight.filter fun r => r.port == p).map Request.tag ↔
      ∃ r m sel, s.job = some { kind := .request r m, selects := sel } ∧ r.port = p ∧ r.tag = tag := by
    simp only [List.mem_map, List.mem_filter, mem_flight_iff h, beq_iff_eq]
    exact exists_congr fun r => ⟨fun ⟨⟨⟨m, sel, hj⟩, hp⟩, ht⟩ => ⟨m, sel, hj, hp, ht⟩,
      fun ⟨m, sel, hj, hp, ht⟩ => ⟨⟨⟨m, sel, hj⟩, hp⟩, ht⟩⟩
  have hrecords : tag ∈ (s.records.filter fun r => r.port == p).map OpRecord.tag ↔
      ∃ d, ∃ rec ∈ (s.tracker d).stack, rec.port = p ∧ rec.tag = tag := by
    simp only [List.mem_map, List.mem_filter, mem_records, beq_iff_eq]
    exact ⟨fun ⟨rec, ⟨⟨d, hd⟩, hp⟩, ht⟩ => ⟨d, rec, hd, hp, ht⟩, fun ⟨d, rec, hd, hp, ht⟩ => ⟨rec, ⟨⟨d, hd⟩, hp⟩, ht⟩⟩
  rw [outstandingTags, unansweredTags, List.mem_append, List.mem_append, List.mem_append, hflight, hrecords,
    mem_responseTags_iff, List.mem_map, or_assoc, or_assoc]

end State

/-- Settles O12: the verdict of the first check that decides, and the receipt it leaves. -/
theorem refusedAtIntakeLeavesReceipt : Obligations.RefusedAtIntakeLeavesReceipt := by
  refine ⟨fun s p tag hpart => State.mem_outstandingTags_iff hpart, fun i p tag q s hi hp => ?_⟩
  have hunknown : q.group ≠ .unknown := fun h => handed_ne_unknown hi (FrameRequest.group_eq_unknown_iff.mp h)
  have hcollect : q ≠ .null → q.group ≠ .collect := mt FrameRequest.group_eq_collect_iff.mp
  refine ⟨fun hpart => ?_, fun hpart hq => ?_, fun hpart hq ht => ?_, fun hpart hq ht hfull => ?_,
    fun hpart hq ht hroom hsum => ?_⟩
  · exact State.exec_receipted hi hp (State.verdict_resetting hpart) nofun
  · subst hq
    exact State.exec_receipted hi hp (State.verdict_collect hpart) nofun
  · exact State.exec_receipted hi hp (State.verdict_tagBusy hpart (hcollect hq) hunknown ht) nofun
  · refine State.exec_receipted hi hp ?_ (code := .queueFull) nofun
    rw [FrameRequest.group_eq_memory_iff.mpr hq]
    exact State.verdict_queueFull hpart ht hfull
  · exact State.exec_receipted hi hp (State.verdict_noSlot hpart (hcollect hq) hunknown ht
      (fun h => hroom (FrameRequest.group_eq_memory_iff.mp h)) hsum) nofun

end Sys2Proof.Machine
end

section
/-! SUPPORT. The end of a valid frame: removal, notices and the request it carries, the attention lines following
(R113, R116, R140, R152, R153). -/

namespace Sys2Proof.Machine

/-! ## The end of a valid frame (R153) -/

namespace State

variable {s : State} {p : Port} {f : Frame}

/-- Removal and the moving of notices, on a select that is released (R138, R152). -/
theorem frameClosed_eq (s : State) (p : Port) (f : Frame) :
    ((s.setLink p { s.link p with select := .released, dout := none, doutBits := [] }).removal p f).moveNotices p
      = s.frameClosed p f := by
  have hdelivers : ∀ n, f.delivers n = f.latched.any fun size => decide (2 + size ≤ n) := fun n => by
    unfold Frame.delivers
    cases f.latched <;> rfl
  unfold removal
  rw [link_setLink_self, hdelivers]
  unfold frameClosed
  split <;> cases p <;> rfl

/-- The end of a valid frame of whole bytes (R153). -/
theorem exec_frameEnd_valid (hp : s.power ≠ .off) (hsel : (s.link p).select = .frame f)
    (hcount : (s.link p).count ≤ 266) (hvalid : frameBytesValid f.held = true) : exec (.frameEnd p 0) s
      = .next ((s.frameClosed p f).handRequest p (frameTag f.held) (frameRequest f.held)).driveAttention := by
  have hframe : f.valid (s.link p).count 0 = true := by simp [Frame.valid, hvalid, Config.heldBytes, hcount]
  refine (s.powered_on _ hp).trans (congrArg _ ?_)
  rw [frameEnd, hsel]
  dsimp only [frameEndWork]
  rw [leadingBits_zero, frameClosed_eq, if_pos hframe]

end State

/-! ## A frame of an unknown kind (R114, R116) -/

theorem requestKindOf_eq_none {b : Byte} (h : ∀ k : RequestKind, k.code ≠ b) : requestKindOf b = none :=
  List.find?_eq_none.mpr fun k _ hk => h k (beq_iff_eq.mp hk)

theorem frameRequest_unknown {bs : List Byte} (h : ∀ k : RequestKind, k.code ≠ bs.getD 0 0) :
    frameRequest bs = .unknown := by
  rw [frameRequest, requestKindOf_eq_none h]

/-- Settles O9: the verdict on an unknown kind comes before every look at tags, queues and outbound capacity. -/
theorem unknownKindFrameEnds : Obligations.UnknownKindFrameEnds := by
  intro p s f hp hsel hcount hvalid hkind
  have hend := State.exec_frameEnd_valid hp hsel hcount hvalid
  rw [frameRequest_unknown hkind, State.handRequest, State.unknownRequest_eq] at hend
  refine ⟨fun hpart => ?_, fun hpart => ?_⟩
  · rw [hend, State.verdict_unknown (s := s.frameClosed p f) hpart]
    rfl
  · rw [hend, State.verdict_resetting (s := s.frameClosed p f) hpart]
    rfl

/-! ## Attention is no part of what a request does (R140) -/

namespace State

variable {s t : State} {p : Port} {tag : Byte}

theorem close_of_driven (h : s.driveAttention = t.driveAttention) : s.close = t.close := by
  have hclose : ∀ u : State, u.driveAttention.close = u.close := fun u =>
    close_of_attention fun q => by cases q <;> exact ⟨_, rfl⟩
  rw [← hclose s, h, hclose]

theorem driveAttention_close (h : s.driveAttention = t.driveAttention) : s.close.driveAttention = t.close :=
  (driveAttention_driveAttention _).trans (close_of_driven h)

theorem driveAttention_respond (q : Port) (m : Message) :
    (s.driveAttention.respond q m).driveAttention = (s.respond q m).driveAttention := by cases q <;> rfl

theorem driveAttention_raise (q : Port) (n : Notice) :
    (s.driveAttention.raise q n).driveAttention = (s.raise q n).driveAttention := by cases q <;> rfl

theorem respond_of_driven (h : s.driveAttention = t.driveAttention) (q : Port) (m : Message) :
    (s.respond q m).driveAttention = (t.respond q m).driveAttention := by
  rw [← driveAttention_respond, h, driveAttention_respond]

theorem raise_of_driven (h : s.driveAttention = t.driveAttention) (q : Port) (n : Notice) :
    (s.raise q n).driveAttention = (t.raise q n).driveAttention := by
  rw [← driveAttention_raise, h, driveAttention_raise]

theorem driveAttention_accept (q : Port) : s.driveAttention.accept q = (s.accept q).driveAttention := by
  cases q <;> rfl

theorem driveAttention_verdict (q : Port) (g : Group) :
    s.driveAttention.intakeVerdict q tag g = s.intakeVerdict q tag g := by cases q <;> rfl

theorem driveAttention_lowerUse (w : WindowNo) :
    (s.driveAttention.lowerUse w).driveAttention = (s.lowerUse w).driveAttention := by
  unfold lowerUse
  dsimp only
  rw [driveAttention_window]
  split
  · exact driveAttention_raise (s := s.setWindow w _) ..
  · rfl

theorem answer_of_driven (h : s.driveAttention = t.driveAttention) (q : Port) (m : Message) (w : WindowNo)
    (d : Device) : (s.answer q m w d).driveAttention = (t.answer q m w d).driveAttention := by
  have hanswer : ∀ u : State, (u.answer q m w d).driveAttention
      = (((u.respond q m).driveAttention.lowerRef d).lowerUse w).driveAttention := fun u =>
    (driveAttention_lowerUse w).symm
  rw [hanswer, hanswer, respond_of_driven h]

theorem driveAttention_answer (q : Port) (m : Message) (w : WindowNo) (d : Device) :
    (s.driveAttention.answer q m w d).driveAttention = (s.answer q m w d).driveAttention :=
  answer_of_driven (driveAttention_driveAttention s) q m w d

theorem raiseDenials_of_driven (h : s.driveAttention = t.driveAttention) (q : Port) :
    (s.raiseDenials q).driveAttention = (t.raiseDenials q).driveAttention := congrArg (State.raiseDenials · q) h

theorem raiseDenialNotice_of_driven (h : s.driveAttention = t.driveAttention) (st : Status) (w : Option WindowNo) :
    (s.raiseDenialNotice st w).driveAttention = (t.raiseDenialNotice st w).driveAttention := by
  have hreports : ∀ u : State, u.driveAttention.reports w = u.reports w := fun u => by cases w <;> rfl
  have hmanager : s.manager = t.manager := by rw [← driveAttention_manager s, h, driveAttention_manager]
  unfold raiseDenialNotice
  rw [← hreports s, h, hreports t, hmanager]
  split
  · exact raise_of_driven h ..
  · exact h

theorem driveAttention_refuse (k : RequestKind) (st : Status) (w : Option WindowNo) :
    (s.driveAttention.refuse p tag k st w).driveAttention = (s.refuse p tag k st w).driveAttention := by
  have hresponse := driveAttention_respond (s := s) p (plainResponse k tag st)
  unfold refuse
  dsimp only
  split
  · exact raiseDenialNotice_of_driven (raiseDenials_of_driven hresponse p) ..
  · exact hresponse

theorem driveAttention_reply (k : RequestKind) (st : Status) (data : ResponseData) :
    (s.driveAttention.reply p k tag st data).driveAttention = s.reply p k tag st data :=
  (driveAttention_driveAttention _).trans (driveAttention_respond ..)

theorem driveAttention_memoryRequest (a : Word) (ask : Ask) :
    (s.driveAttention.memoryRequest p tag a ask).driveAttention = s.memoryRequest p tag a ask := by
  have hcheck : s.driveAttention.check p tag a ask = s.check p tag a ask := rfl
  unfold memoryRequest
  rw [hcheck]
  refine driveAttention_close ?_
  cases s.check p tag a ask with
  | refused st w => exact driveAttention_refuse ..
  | translated r => rfl

theorem driveAttention_windowWriteDo (n : Word) (r : WindowRecord) :
    (s.driveAttention.windowWriteDo p tag n r).driveAttention = s.windowWriteDo p tag n r := by
  have hcheck : s.driveAttention.windowWriteCheck p n r = s.windowWriteCheck p n r := rfl
  unfold windowWriteDo
  rw [hcheck]
  split
  · exact driveAttention_reply ..
  · exact driveAttention_reply (s := s.setWindow _ _) ..

theorem driveAttention_windowReadDo (n : Word) :
    (s.driveAttention.windowReadDo p tag n).driveAttention = s.windowReadDo p tag n := by
  unfold windowReadDo
  cases windowNumber n with
  | none => exact driveAttention_reply ..
  | some n =>
    dsimp only
    rw [driveAttention_manager, driveAttention_window]
    split <;> exact driveAttention_reply ..

theorem driveAttention_swapDo (n : Word) :
    (s.driveAttention.swapDo p tag n).driveAttention = s.swapDo p tag n := by
  have hcheck : s.driveAttention.swapCheck p n = s.swapCheck p n := rfl
  unfold swapDo
  rw [hcheck]
  cases s.swapCheck p n with
  | inl st => exact driveAttention_reply ..
  | inr n =>
    dsimp only [driveAttention_window]
    split <;> exact driveAttention_reply (s := s.setWindow n _) ..

theorem driveAttention_profileWriteDo (n : Word) (r : ProfileRecord) :
    (s.driveAttention.profileWriteDo p tag n r).driveAttention = s.profileWriteDo p tag n r := by
  have hcheck : s.driveAttention.profileWriteCheck p n r = s.profileWriteCheck p n r := rfl
  unfold profileWriteDo
  rw [hcheck]
  cases s.profileWriteCheck p n r with
  | inl st => exact driveAttention_reply ..
  | inr d => exact driveAttention_reply (s := (s.setProfile d _).setTracker d _) ..

theorem driveAttention_profileReadDo (n : Word) :
    (s.driveAttention.profileReadDo p tag n).driveAttention = s.profileReadDo p tag n := by
  unfold profileReadDo
  cases deviceNumber n <;> exact driveAttention_reply ..

theorem driveAttention_freezeDo :
    (s.driveAttention.freezeDo p tag).driveAttention = s.freezeDo p tag := by
  have hblocks : s.driveAttention.swapBlocksFreeze = s.swapBlocksFreeze := rfl
  unfold freezeDo
  rw [hblocks, driveAttention_manager]
  split
  · exact driveAttention_reply ..
  · split
    · exact driveAttention_reply ..
    · exact driveAttention_reply (s := { s with frozen := true }) ..

theorem driveAttention_handoverDo :
    (s.driveAttention.handoverDo p tag).driveAttention = s.handoverDo p tag := by
  unfold handoverDo
  rw [driveAttention_manager, driveAttention_frozen]
  split
  · exact driveAttention_reply ..
  · split
    · exact driveAttention_reply ..
    · refine driveAttention_close (raise_of_driven (raise_of_driven ?_ ..) ..)
      exact driveAttention_respond (s := { s with manager := p.other }) ..

theorem driveAttention_statusReadDo (c : Bool) :
    (s.driveAttention.statusReadDo p tag c).driveAttention = s.statusReadDo p tag c := by
  have hsnapshot : s.driveAttention.snapshot = s.snapshot := rfl
  unfold statusReadDo
  rw [hsnapshot, driveAttention_manager]
  split
  · exact driveAttention_reply ..
  · cases c
    · exact driveAttention_reply ..
    · exact driveAttention_reply (s := s.clearCounts) ..

theorem driveAttention_abortTarget (q : Port) (u : Byte) (target : Target) :
    (s.driveAttention.abortTarget q u target).driveAttention = (s.abortTarget q u target).driveAttention := by
  cases target with
  | waiting r => exact driveAttention_answer (s := s.setQueue q _) ..
  | notFound | inJob r | record d => rfl

theorem driveAttention_abortDo (q : Port) (u : Byte) :
    (s.driveAttention.abortDo p tag q u).driveAttention = s.abortDo p tag q u := by
  have htarget : s.driveAttention.findTarget q u = s.findTarget q u := rfl
  unfold abortDo
  rw [htarget, driveAttention_manager]
  split
  · exact driveAttention_reply ..
  · split
    · exact driveAttention_reply ..
    · exact driveAttention_close (respond_of_driven (driveAttention_abortTarget ..) ..)

theorem driveAttention_warmResetDo (e : Half) :
    (s.driveAttention.warmResetDo p tag e).driveAttention = s.warmResetDo p tag e := by
  unfold warmResetDo
  rw [driveAttention_manager, driveAttention_epoch]
  split
  · exact driveAttention_reply ..
  · split
    · exact driveAttention_reply ..
    · rfl

/-- What an accepted request does drives the attention lines itself, and does not look at them. -/
theorem driveAttention_carryOut {q : FrameRequest} (hnull : q ≠ .null) (hunknown : q ≠ .unknown) :
    (q.carryOut p tag s.driveAttention).driveAttention = q.carryOut p tag s := by
  cases q with
  | null => exact absurd rfl hnull
  | unknown => exact absurd rfl hunknown
  | read | program | erase => exact driveAttention_memoryRequest ..
  | windowWrite => exact driveAttention_windowWriteDo ..
  | windowRead => exact driveAttention_windowReadDo ..
  | profileWrite => exact driveAttention_profileWriteDo ..
  | profileRead => exact driveAttention_profileReadDo ..
  | swap => exact driveAttention_swapDo ..
  | freeze => exact driveAttention_freezeDo
  | handover => exact driveAttention_handoverDo
  | statusRead => exact driveAttention_statusReadDo ..
  | abort => exact driveAttention_abortDo ..
  | warmReset => exact driveAttention_warmResetDo ..

/-- The attention lines may be driven before a request is handed to intake or after it. -/
theorem handRequest_driveAttention (q : FrameRequest) :
    (s.handRequest p tag q).driveAttention = s.driveAttention.handRequest p tag q := by
  have hverdict := driveAttention_verdict (s := s) (tag := tag) p q.group
  rw [handRequest_eq, handRequest_eq, intake, intake, hverdict, driveAttention_accept]
  split
  · next ha =>
    obtain ⟨_, hcollect, hunknown, _⟩ := (s.accepted_iff p tag q.group).mp ha
    have hblind := fun u : State => driveAttention_carryOut (s := u) (p := p) (tag := tag)
      (mt FrameRequest.group_eq_collect_iff.mpr hcollect) (mt FrameRequest.group_eq_unknown_iff.mpr hunknown)
    have hdriven : (q.carryOut p tag (s.accept p)).driveAttention = q.carryOut p tag (s.accept p).driveAttention := by
      rw [← hblind (s.accept p), ← hblind (s.accept p).driveAttention, driveAttention_driveAttention,
        driveAttention_driveAttention]
    exact congrArg (State.writeReceipt · p tag _) hdriven
  · rfl

end State

/-- Settles O10: the request's own command is the request handed to intake, and the attention lines, driven last at a
frame's end, may as well be driven before it. -/
theorem frameEndRunsItsRequest : Obligations.FrameEndRunsItsRequest := by
  intro i p s f hp hsel hcount hvalid hi
  rw [State.exec_frameEnd_valid hp hsel hcount hvalid, State.handRequest_driveAttention, exec_handed hi,
    State.powered_on (s.frameClosed p f).driveAttention _ hp]

end Sys2Proof.Machine
end

section
/-! SUPPORT. The tags of a port's unanswered requests and queued responses, and its waiting requests: what an update
that answers nothing, an answer, and an accepted request do to them (R117, R125). -/

namespace Sys2Proof.Machine

/-- What an unanswered request is known by on the links: its port and its tag (R117). -/
def Owed.key (o : Owed) : Port × Byte := (o.port, o.tag)

/-- The tags of the responses in a port's outbound queue. -/
def Outbound.responseTags (o : Outbound) : List Byte := o.queue.filterMap Message.responseTag

/-- The requests of a list and the responses in the outbound queues differ in their port or in their tag. -/
def State.Apart (s : State) (l : List (Port × Byte)) : Prop :=
  ∀ p a, l.count (p, a) + (s.out p).responseTags.count a ≤ 1

/-- Tags and port queues within an event: the unanswered requests, the queued responses and the requests being handled
in this event differ in their port or in their tag (R117), and no port queue holds more than 4 requests (R125). -/
structure State.Orderly (s : State) (held : List (Port × Byte)) : Prop where
  tags : s.Apart (held ++ s.owed.map Owed.key)
  room : QueueCapacityLaw s

namespace Outbound

variable (o : Outbound)

theorem moveOne_responseTags : o.moveOne.responseTags = o.responseTags := by
  obtain ⟨e, _⟩ | ⟨n, rest, _, _, e⟩ := o.moveOne_cases
  · rw [e]
  · rw [e]
    exact List.filterMap_append.trans (List.append_nil _)

/-- Notices that are moved make no tag outstanding (R117). -/
@[simp] theorem moveNotices_responseTags : o.moveNotices.responseTags = o.responseTags := by
  simp only [moveNotices, Function.iterate_succ, Function.iterate_zero, Function.comp, id, moveOne_responseTags]

theorem removeHead_responseTags : o.removeHead.responseTags.Sublist o.responseTags :=
  (List.tail_sublist _).filterMap _

theorem respond_responseTags (k : RequestKind) (tag : Byte) (st : Status) (data : ResponseData) :
    (o.respond (.response k tag st data)).responseTags = o.responseTags ++ [tag] := List.filterMap_append

end Outbound

namespace State

variable {s t u : State} {held l l' : List (Port × Byte)} {p : Port} {tag : Byte} {d : Device}

/-! ## The two forms of the law of tags -/

theorem records_eq : s.records = allDevices.flatMap fun d => (s.tracker d).stack := by
  have htrackers : s.trackers.toList = allDevices.map s.tracker := by
    refine List.ext_getElem (by simp [allDevices]) fun i hi hi' => ?_
    have : i < 4 := by simpa using hi
    interval_cases i <;> simp [allDevices, tracker]
  rw [records, htrackers, List.flatMap_map]

/-- Entries known by port and tag, counted by their tag among those of the port. -/
theorem count_keys {α : Type} (port : α → Port) (tag : α → Byte) (l : List α) (p : Port) (a : Byte) :
    (l.map fun x => (port x, tag x)).count (p, a) = ((l.filter fun x => port x == p).map tag).count a := by
  simp only [List.count_eq_countP, List.countP_map, List.countP_filter]
  exact List.countP_congr fun x _ => by simp [and_comm]

/-- A port queue holds the requests of its own port only (R125). -/
theorem filter_queue (hports : QueuePortLaw s) (p q : Port) :
    ((s.queue q).filter fun r => r.port == p) = if q = p then s.queue q else [] := by
  split
  · next e => exact List.filter_eq_self.mpr fun r hr => beq_iff_eq.mpr ((hports q r hr).trans e)
  · next e => exact List.filter_eq_nil_iff.mpr fun r hr hp => e ((hports q r hr).symm.trans (beq_iff_eq.mp hp))

/-- The unanswered requests of a port, by their tags. -/
theorem count_unansweredTags (hports : QueuePortLaw s) (p : Port) (a : Byte) :
    (s.unansweredTags p).count a = (s.owed.map Owed.key).count (p, a) := by
  have howed : s.owed.map Owed.key = (s.queue .A ++ s.queue .B ++ s.flight).map (fun r => (r.port, r.tag))
      ++ s.records.map fun rec => (rec.port, rec.tag) := by
    simp only [owed, records_eq, List.map_append, List.map_map, List.map_flatMap]
    rfl
  have hqueues : ((s.queue .A ++ s.queue .B).filter fun r => r.port == p) = s.queue p := by
    rw [List.filter_append, filter_queue hports, filter_queue hports]
    cases p <;> simp
  rw [howed, List.count_append, count_keys, count_keys, List.filter_append, hqueues, List.map_append, unansweredTags,
    List.count_append]

theorem count_outstandingTags (hports : QueuePortLaw s) (p : Port) (a : Byte) :
    (s.outstandingTags p).count a = (s.owed.map Owed.key).count (p, a) + (s.out p).responseTags.count a := by
  rw [outstandingTags, List.count_append, count_unansweredTags hports]
  rfl

theorem orderly_iff (hports : QueuePortLaw s) : s.Orderly [] ↔ QueueCapacityLaw s ∧ TagLaw s := by
  have htags : s.Apart (s.owed.map Owed.key) ↔ TagLaw s := by
    simp only [Apart, TagLaw, List.nodup_iff_count_le_one, count_outstandingTags hports]
  rw [← htags]
  exact ⟨fun h => ⟨h.room, h.tags⟩, fun h => ⟨h.2, h.1⟩⟩

/-! ## Lists of requests that are apart -/

theorem Apart.mono (h : s.Apart l) (hl : ∀ x, l'.count x ≤ l.count x)
    (hr : ∀ p, (t.out p).responseTags.Sublist (s.out p).responseTags) : t.Apart l' := fun p a =>
  (Nat.add_le_add (hl (p, a)) ((hr p).count_le a)).trans (h p a)

theorem Apart.perm (h : s.Apart l) (hl : l.Perm l') : s.Apart l' :=
  h.mono (fun x => (hl.count_eq x).ge) fun _ => .refl _

/-- A response takes the place of the request it answers (R117). -/
theorem Apart.respond (h : s.Apart ((p, tag) :: l)) (k : RequestKind) (st : Status) (data : ResponseData) :
    (s.respond p (.response k tag st data)).Apart l := by
  intro q a
  have := h q a
  rw [List.count_cons] at this
  rw [respond_out]
  by_cases e : q = p
  · subst e
    simp [Outbound.respond_responseTags, List.count_singleton] at this ⊢
    omega
  · simp [e] at this ⊢
    omega

theorem lowerUse_responseTags (w : WindowNo) : ((s.lowerUse w).out p).responseTags = (s.out p).responseTags := by
  obtain ⟨_, _, e⟩ | ⟨_, e⟩ := s.lowerUse_cases w
  · rw [e, raise_out]
    split
    · next x => rw [x]; rfl
    · rfl
  · rw [e]
    rfl

/-- The answer to a translated request takes its place (R4, R52, R117). -/
theorem Apart.answer {o : Owed} (h : s.Apart (o.key :: l)) (k : RequestKind) (st : Status) (data : ResponseData) :
    (s.answer o.port (.response k o.tag st data) o.window o.device).Apart l :=
  (h.respond k st data).mono (fun _ => le_rfl) fun _ => by
    unfold State.answer
    rw [lowerUse_responseTags]
    exact .refl _

/-- The records of a list, all on one device, are answered in turn (R63). -/
theorem Apart.answerAll {recs : List OpRecord} (h : s.Apart ((recs.map (OpRecord.owed d)).map Owed.key ++ l)) :
    (s.answerAll d recs).Apart l := by
  induction recs generalizing s with
  | nil => exact h
  | cons rec rest ih => exact ih (h.answer (o := rec.owed d) _ _ _)

/-- The waiting requests of a list are answered in turn (R66). -/
theorem Apart.answerFaults {rs : List Request} (h : s.Apart ((rs.map Request.owed).map Owed.key ++ l)) :
    (s.answerFaults rs).Apart l := by
  induction rs generalizing s with
  | nil => exact h
  | cons r rest ih => exact ih (h.answer (o := r.owed) _ _ _)

/-! ## Updates by which no request becomes outstanding -/

/-- No request and no response is added, and no port queue is longer. -/
structure Steady (s t : State) : Prop where
  owed : ∀ x, (t.owed.map Owed.key).count x ≤ (s.owed.map Owed.key).count x
  responses : ∀ p, (t.out p).responseTags.Sublist (s.out p).responseTags
  queues : ∀ p, (t.queue p).length ≤ (s.queue p).length

theorem Orderly.steady (h : s.Orderly held) (hst : s.Steady t) : t.Orderly held where
  tags := h.tags.mono (fun x => by
    rw [List.count_append, List.count_append]
    exact Nat.add_le_add_left (hst.owed x) _) hst.responses
  room p := (hst.queues p).trans (h.room p)

/-- The requests being handled are discarded (R178). -/
theorem Orderly.forget (h : s.Orderly held) : s.Orderly [] where
  tags := h.tags.mono (fun x => by simp) fun _ => .refl _
  room := h.room

theorem Steady.trans (h : s.Steady t) (h' : t.Steady u) : s.Steady u where
  owed x := (h'.owed x).trans (h.owed x)
  responses p := (h'.responses p).trans (h.responses p)
  queues p := (h'.queues p).trans (h.queues p)

/-- Every request stays where it is, and no response is added. -/
theorem Steady.of_keeps (hq : ∀ p, t.queue p = s.queue p) (hf : t.flight = s.flight)
    (ht : ∀ d, (s.tracker d).Keeps (t.tracker d))
    (ho : ∀ p, (t.out p).responseTags.Sublist (s.out p).responseTags) : s.Steady t where
  owed x := by rw [s.owed_congr hq hf fun d => (ht d).stack d]
  responses := ho
  queues p := by rw [hq]

/-- An update of no block that holds requests or messages. -/
theorem Steady.of_eq (hpart : t.part = s.part) (hjob : t.job = s.job) (hqueues : t.queues = s.queues)
    (htrackers : t.trackers = s.trackers) (houts : t.outbound = s.outbound) : s.Steady t :=
  .of_keeps (fun p => by simp only [queue, hqueues]) (s.flight_eq hpart hjob)
    (fun d => by simp only [tracker, htrackers]; exact .refl _) fun p => by simp only [out, houts]; exact .refl _

theorem Steady.setOut {v : Outbound} (h : v.responseTags.Sublist (s.out p).responseTags) : s.Steady (s.setOut p v) :=
  .of_keeps (fun _ => rfl) rfl (fun _ => .refl _) fun q => by
    rw [out_setOut]
    split
    · next e => rw [e]; exact h
    · exact .refl _

theorem Steady.raise (p : Port) (n : Notice) : s.Steady (s.raise p n) := .setOut (.refl _)

theorem Steady.moveNotices (p : Port) : s.Steady (s.moveNotices p) :=
  .setOut (by rw [Outbound.moveNotices_responseTags])

theorem Steady.driveAttention : s.Steady s.driveAttention :=
  .of_keeps (fun _ => rfl) rfl (fun _ => .refl _) fun p => by rw [driveAttention_out]; exact .refl _

theorem Steady.setTracker {v : Tracker} (h : (s.tracker d).Keeps v) : s.Steady (s.setTracker d v) :=
  .of_keeps (fun _ => rfl) rfl (fun e => by
    rw [tracker_setTracker]
    split
    · next x => rwa [x]
    · exact .refl _) fun _ => .refl _

theorem Steady.reconsider : s.Steady s.reconsider :=
  .of_keeps (fun _ => rfl) rfl (fun d => by rw [reconsider_tracker]; exact ⟨rfl, fun _ => rfl⟩) fun _ => .refl _

theorem Steady.close : s.Steady s.close :=
  ((Steady.reconsider.trans (.moveNotices .A)).trans (.moveNotices .B)).trans .driveAttention

/-- A part that discards every request and message (R178, R183, R185). -/
theorem Steady.of_empty (hpart : t.part = .resetting) (hq : ∀ p, t.queue p = []) (ho : ∀ p, t.out p = .empty)
    (ht : ∀ d, (t.tracker d).stack = []) : s.Steady t where
  owed x := by
    have howed : t.owed = [] := by simp [State.owed, hq, ht, flight_of_resetting hpart, allDevices]
    simp [howed]
  responses p := by rw [ho]; exact List.nil_sublist _
  queues p := by simp [hq]

/-! ## Answers and accepted requests -/

theorem Orderly.close (h : s.Orderly held) : s.close.Orderly held := h.steady .close

theorem Orderly.respond (h : s.Orderly ((p, tag) :: held)) (k : RequestKind) (st : Status) (data : ResponseData) :
    (s.respond p (.response k tag st data)).Orderly held := ⟨h.tags.respond k st data, h.room⟩

theorem Orderly.reply (h : s.Orderly ((p, tag) :: held)) (k : RequestKind) (st : Status) (data : ResponseData) :
    (s.reply p k tag st data).Orderly held := (h.respond k st data).steady .driveAttention

/-- Requests are answered that have left their places among the unanswered ones. -/
theorem Orderly.of_unmoved (htags : t.Apart (held ++ s.owed.map Owed.key)) (hroom : QueueCapacityLaw s)
    (hu : s.Unmoved t) : t.Orderly held where
  tags := by rw [hu.owed]; exact htags
  room p := by rw [hu.queue]; exact hroom p

/-- An answer to a request that has left its place among the unanswered ones (R4, R52, R132). -/
theorem Orderly.of_answer {o : Owed} (htags : s.Apart (o.key :: (held ++ s.owed.map Owed.key)))
    (hroom : QueueCapacityLaw s) (k : RequestKind) (st : Status) (data : ResponseData) :
    (s.answer o.port (.response k o.tag st data) o.window o.device).Orderly held :=
  .of_unmoved (htags.answer k st data) hroom (unmoved_answer ..)

/-- A request is accepted whose tag is not outstanding on its port (R117). -/
theorem Orderly.accept (h : s.Orderly []) (hports : QueuePortLaw s) (htag : tag ∉ s.outstandingTags p) :
    (s.accept p).Orderly [(p, tag)] where
  tags q a := by
    have hfree : (s.outstandingTags p).count tag = 0 := List.count_eq_zero.mpr htag
    have := h.tags q a
    rw [count_outstandingTags hports] at hfree
    have hout : ((s.accept p).out q).responseTags = (s.out q).responseTags := by
      rw [accept_out]
      split
      · next e => rw [e]; rfl
      · rfl
    show ([(p, tag)] ++ s.owed.map Owed.key).count (q, a) + _ ≤ 1
    rw [hout, List.count_append, List.count_singleton]
    split
    · next e =>
      obtain ⟨rfl, rfl⟩ := Prod.mk.injEq .. ▸ beq_iff_eq.mp e
      omega
    · simpa using this
  room := h.room

/-- A translated request joins a port queue that has room (R17, R125). -/
theorem Orderly.enqueue {r : Request} (h : s.Orderly ((r.port, r.tag) :: held)) (hroom : (s.queue r.port).length < 4) :
    (s.enqueue r).Orderly held where
  tags := h.tags.mono (fun x => by
    have := ((s.owed_enqueue r).map Owed.key).count_eq x
    rw [List.map_cons, List.count_cons] at this
    rw [List.cons_append, List.count_cons, List.count_append, List.count_append, this]
    exact (Nat.add_assoc ..).ge) fun _ => .refl _
  room p := by
    rw [enqueue_queue]
    split
    · next e =>
      subst e
      simpa [Config.queueCapacity] using hroom
    · exact h.room p

/-- Requests that leave a port queue (R125). -/
theorem Orderly.leave_queue (h : s.Orderly held) {left stay : List Request} (hq : (s.queue p).Perm (left ++ stay)) :
    (s.setQueue p stay).Apart ((left.map Request.owed).map Owed.key ++ (held ++ (s.setQueue p stay).owed.map Owed.key))
      ∧ QueueCapacityLaw (s.setQueue p stay) := by
  refine ⟨h.tags.mono (fun x => ?_) fun _ => .refl _, fun q => ?_⟩
  · have := ((s.owed_of_leave_queue p hq).map Owed.key).count_eq x
    simp only [List.map_append, List.count_append] at this ⊢
    omega
  · rw [queue_setQueue]
    split
    · next e =>
      have hlen := hq.length_eq
      have := h.room p
      rw [List.length_append] at hlen
      omega
    · exact h.room q

end State
end Sys2Proof.Machine
end

section
/-! SUPPORT. Every command keeps the tags of the outstanding requests apart and the port queues within 4 (R117,
R125). -/

namespace Sys2Proof.Machine

namespace State

variable {s t u : State} {held : List (Port × Byte)} {p : Port} {tag : Byte} {d : Device}

/-! ## Requests -/

theorem Orderly.refuse (h : s.Orderly ((p, tag) :: held)) (k : RequestKind) (st : Status) (w : Option WindowNo) :
    (s.refuse p tag k st w).Orderly held := by
  have hr := h.respond k st .absent
  unfold State.refuse raiseDenialNotice
  dsimp only
  split
  · have hd := hr.steady (.of_eq (t := (s.respond p (plainResponse k tag st)).raiseDenials p) rfl rfl rfl rfl rfl)
    split
    · exact hd.steady (.raise ..)
    · exact hd
  · exact hr

/-- A translated request carries the tag of the frame that asked for it (R17). -/
theorem translate_tag {a : Word} {ask : Ask} {r : Request} (h : s.translate p tag a ask = .translated r) :
    r.tag = tag := by
  unfold translate at h
  split at h
  · cases h
  · dsimp only at h
    repeat' split at h
    all_goals cases h
    rfl

theorem check_tag {a : Word} {ask : Ask} {r : Request} (h : s.check p tag a ask = .translated r) : r.tag = tag := by
  unfold check at h
  split at h
  · exact translate_tag h
  · cases h

theorem Orderly.memoryRequest (h : s.Orderly [(p, tag)]) (hroom : (s.queue p).length < 4) (a : Word) (ask : Ask) :
    (s.memoryRequest p tag a ask).Orderly [] := by
  unfold State.memoryRequest
  split
  · exact (h.refuse ..).close
  · next r hr =>
    obtain ⟨rfl, _⟩ := check_translated hr
    obtain rfl := check_tag hr
    exact (h.enqueue hroom).close

theorem Orderly.windowWriteDo (h : s.Orderly [(p, tag)]) (n : Word) (r : WindowRecord) :
    (s.windowWriteDo p tag n r).Orderly [] := by
  unfold State.windowWriteDo
  split
  · exact h.reply ..
  · exact (h.steady (t := s.setWindow _ _) (.of_eq rfl rfl rfl rfl rfl)).reply ..

theorem Orderly.windowReadDo (h : s.Orderly [(p, tag)]) (n : Word) : (s.windowReadDo p tag n).Orderly [] := by
  unfold State.windowReadDo
  split
  · exact h.reply ..
  · split <;> exact h.reply ..

theorem Orderly.swapDo (h : s.Orderly [(p, tag)]) (n : Word) : (s.swapDo p tag n).Orderly [] := by
  have hw : ∀ n v, (s.setWindow n v).Orderly [(p, tag)] := fun n v => h.steady (.of_eq rfl rfl rfl rfl rfl)
  unfold State.swapDo
  split
  · exact h.reply ..
  · dsimp only
    split <;> exact (hw ..).reply ..

theorem Orderly.profileWriteDo (h : s.Orderly [(p, tag)]) (n : Word) (r : ProfileRecord) :
    (s.profileWriteDo p tag n r).Orderly [] := by
  unfold State.profileWriteDo
  split
  · exact h.reply ..
  · next d _ =>
    have hprofile : s.Steady (s.setProfile d r.toProfile) := .of_eq rfl rfl rfl rfl rfl
    have htracker : (s.tracker d).Keeps ((s.tracker d).reprofiled r.toProfile) := ⟨rfl, fun _ => rfl⟩
    exact (h.steady (hprofile.trans (.setTracker htracker))).reply ..

theorem Orderly.profileReadDo (h : s.Orderly [(p, tag)]) (n : Word) : (s.profileReadDo p tag n).Orderly [] := by
  unfold State.profileReadDo
  split <;> exact h.reply ..

theorem Orderly.freezeDo (h : s.Orderly [(p, tag)]) : (s.freezeDo p tag).Orderly [] := by
  unfold State.freezeDo
  split
  · exact h.reply ..
  · split
    · exact h.reply ..
    · exact (h.steady (t := { s with frozen := true }) (.of_eq rfl rfl rfl rfl rfl)).reply ..

theorem Orderly.handoverDo (h : s.Orderly [(p, tag)]) : (s.handoverDo p tag).Orderly [] := by
  unfold State.handoverDo
  split
  · exact h.reply ..
  · split
    · exact h.reply ..
    · have hm := h.steady (t := { s with manager := p.other }) (.of_eq rfl rfl rfl rfl rfl)
      exact (((hm.respond ..).steady (.raise ..)).steady (.raise ..)).close

theorem Orderly.statusReadDo (h : s.Orderly [(p, tag)]) (c : Bool) : (s.statusReadDo p tag c).Orderly [] := by
  unfold State.statusReadDo
  split
  · exact h.reply ..
  · cases c
    · exact h.reply ..
    · exact (h.steady (t := s.clearCounts) (.of_eq rfl rfl rfl rfl rfl)).reply ..

/-- A waiting request leaves its queue and is answered (R172). -/
theorem Orderly.answer_waiting (h : s.Orderly held) (hports : QueuePortLaw s) {q : Port} {r : Request}
    (hr : r ∈ s.queue q) (k : RequestKind) (st : Status) :
    ((s.setQueue q ((s.queue q).erase r)).answer q (plainResponse k r.tag st) r.window r.device).Orderly held := by
  obtain rfl := hports q r hr
  obtain ⟨htags, hroom⟩ := h.leave_queue (left := [r]) (List.perm_cons_erase hr)
  exact .of_answer (o := r.owed) htags hroom ..

theorem Orderly.abortDo (h : s.Orderly [(p, tag)]) (hports : QueuePortLaw s) (q : Port) (v : Byte) :
    (s.abortDo p tag q v).Orderly [] := by
  unfold State.abortDo
  split
  · exact h.reply ..
  split
  · exact h.reply ..
  · generalize ht : s.findTarget q v = target
    cases target with
    | notFound => exact (h.respond ..).close
    | waiting r => exact ((h.answer_waiting hports (findTarget_waiting ht) ..).respond ..).close
    | inJob r =>
      have hmark : s.Steady (s.setJob (s.job.map Job.mark)) :=
        .of_keeps (fun _ => rfl) flight_mark (fun _ => .refl _) fun _ => .refl _
      exact ((h.steady hmark).respond ..).close
    | record d => exact ((h.steady (.setTracker (keeps_abortRecord _ q v))).respond ..).close

/-- The trackers that a reset sequence takes over hold no records (R69, R178, R183). -/
theorem Steady.warmBegin : s.Steady s.warmBegin := .of_empty rfl s.discard_queue s.discard_out fun d => by
  obtain ⟨st, want, e⟩ := warm_eq (s.tracker d)
  rw [warmBegin_tracker, e]
  rfl

theorem Steady.pinBegin : s.Steady s.pinBegin := .of_empty rfl s.discard_queue s.discard_out fun d => by
  obtain ⟨st, e⟩ := pinned_eq (s.tracker d) (s.profile d)
  rw [pinBegin_tracker, e]
  rfl

theorem Orderly.warmResetDo (h : s.Orderly [(p, tag)]) (e : Half) : (s.warmResetDo p tag e).Orderly [] := by
  unfold State.warmResetDo
  split
  · exact h.reply ..
  · split
    · exact h.reply ..
    · exact h.forget.steady .warmBegin

/-- An accepted request is answered, or waits in a port queue that has room (R122 to R125). -/
theorem Orderly.carryOut (h : s.Orderly [(p, tag)]) (hports : QueuePortLaw s) (q : FrameRequest)
    (hroom : q.group = .memory → (s.queue p).length < 4) : (q.carryOut p tag s).Orderly [] := by
  cases q with
  | null | unknown => exact h.forget
  | read | program | erase => exact h.memoryRequest (hroom rfl) ..
  | windowWrite => exact h.windowWriteDo ..
  | windowRead => exact h.windowReadDo ..
  | profileWrite => exact h.profileWriteDo ..
  | profileRead => exact h.profileReadDo ..
  | swap => exact h.swapDo ..
  | freeze => exact h.freezeDo
  | handover => exact h.handoverDo
  | statusRead => exact h.statusReadDo ..
  | abort => exact h.abortDo hports ..
  | warmReset => exact h.warmResetDo ..

theorem Orderly.writeReceipt (h : s.Orderly held) (p : Port) (tag : Byte) (c : ReceiptCode) :
    (s.writeReceipt p tag c).Orderly held := h.steady (.of_eq rfl rfl rfl rfl rfl)

theorem Orderly.handRequest (h : s.Orderly []) (hports : QueuePortLaw s) (p : Port) (tag : Byte) (q : FrameRequest) :
    (s.handRequest p tag q).Orderly [] := by
  rw [handRequest_eq]
  obtain ⟨_, e⟩ | ⟨hv, e⟩ := s.intake_cases p tag q.group (q.carryOut p tag)
  · rw [e]
    exact h.writeReceipt ..
  · obtain ⟨_, _, _, htag, hfull, _⟩ := (s.accepted_iff p tag q.group).mp hv
    rw [e]
    exact ((h.accept hports htag).carryOut hports q fun hm =>
      lt_of_le_of_ne (h.room p) fun hlen => hfull ⟨hm, hlen⟩).writeReceipt ..

/-! ## Frames -/

theorem Steady.setLink (p : Port) (v : Link) : s.Steady (s.setLink p v) := .of_eq rfl rfl rfl rfl rfl

theorem Steady.removal (p : Port) (f : Frame) : s.Steady (s.removal p f) := by
  unfold State.removal
  split
  · exact .setOut (Outbound.removeHead_responseTags _)
  · exact .of_eq rfl rfl rfl rfl rfl

theorem Steady.frameBegin (p : Port) : s.Steady (s.frameBegin p) := by
  unfold State.frameBegin
  split <;> exact .of_eq rfl rfl rfl rfl rfl

theorem Steady.inboundByte (p : Port) (b : Byte) : s.Steady (s.inboundByte p b) := by
  unfold State.inboundByte
  dsimp only
  split <;> exact .of_eq rfl rfl rfl rfl rfl

theorem Orderly.frameEnd (h : s.Orderly []) (hports : QueuePortLaw s) (p : Port) (x : Fin 8) :
    (s.frameEnd p x).Orderly [] := by
  unfold State.frameEnd
  split
  · exact h
  · exact h.steady (.of_eq rfl rfl rfl rfl rfl)
  · next f _ =>
    have hm : ∀ l, (((s.setLink p l).removal p f).moveNotices p).Orderly [] := fun l =>
      h.steady (((Steady.setLink p l).trans (.removal p f)).trans (.moveNotices p))
    have hq : ∀ l, QueuePortLaw (((s.setLink p l).removal p f).moveNotices p) := fun l q r hr => by
      rw [moveNotices_queue, (Quiet.removal p f).queues, setLink_queue] at hr
      exact hports q r hr
    unfold State.frameEndWork
    dsimp only
    refine Orderly.steady ?_ .driveAttention
    split
    · exact (hm _).handRequest (hq _) ..
    · exact ((hm _).steady (.setLink p _)).writeReceipt ..

/-! ## The bus -/

/-- No request joins another block when the job in progress ends. -/
theorem Steady.setJob_none : s.Steady (s.setJob none) where
  owed x := by
    have hflight : (s.setJob none).flight = [] := flight_of_none rfl
    simp only [State.owed, hflight, setJob_queue, setJob_tracker, List.map_append, List.map_nil, List.count_append,
      List.count_nil]
    omega
  responses _ := .refl _
  queues _ := le_rfl

/-- A waiting request leaves its queue for the bus (R103). -/
theorem Steady.grant_request (hpart : s.part = .operating) (hjob : s.job = none) {r : Request}
    (hr : r ∈ s.queue r.port) (m : Bool) : s.Steady (s.grant (.request r m)) where
  owed x := by
    have hleave := s.owed_of_leave_queue r.port (left := [r]) (List.perm_cons_erase hr)
    have hflight : (s.grant (.request r m)).owed.Perm
        (r.owed :: (s.setQueue r.port ((s.queue r.port).erase r)).owed) :=
      owed_of_flight (fun _ => rfl) ((flight_of_request (s := s.grant (.request r m)) hpart rfl).trans
        (congrArg (r :: ·) (flight_of_none (s := s.setQueue r.port _) hjob).symm)) fun _ => rfl
    exact (((hflight.trans hleave.symm).map Owed.key).count_eq x).le
  responses _ := .refl _
  queues q := by
    show ((s.setQueue r.port ((s.queue r.port).erase r)).queue q).length ≤ _
    rw [queue_setQueue]
    split
    · next e => rw [e]; exact List.length_erase_le
    · exact le_rfl

theorem Steady.busGrant (hl : s.Ledger []) : s.Steady s.busGrant := by
  unfold State.busGrant
  split
  · next k hjob hk =>
    refine Steady.trans ?_ .reconsider
    cases k with
    | tracker k d =>
      exact (Steady.setTracker (keeps_granted _ k)).trans
        (.of_keeps (fun _ => rfl) ((flight_of_tracker rfl).trans (flight_of_none hjob).symm) (fun _ => .refl _)
          fun _ => .refl _)
    | request r m =>
      obtain ⟨p, hr⟩ := nextRequest_mem (nextGrant_request hk).2
      obtain rfl := hl.ports p r hr
      refine .grant_request (operating_of_not_resetting fun hpart => ?_) hjob hr m
      rw [((hl.discard hpart).1 r.port).1] at hr
      cases hr
  · exact .of_eq rfl rfl rfl rfl rfl

/-- Records are answered and then leave their stack (R58, R63). -/
theorem Orderly.leave_stack (h : s.Orderly []) {left : List OpRecord} {v : Tracker}
    (hstack : (s.tracker d).stack = left ++ v.stack) (hu : s.Unmoved t)
    (ht : ∀ l, s.Apart ((left.map (OpRecord.owed d)).map Owed.key ++ l) → t.Apart l) :
    (t.setTracker d v).Orderly [] := by
  have howed := owed_of_leave_stack (s := t) (d := d) (v := v) ((hu.records d).trans hstack)
  rw [hu.owed] at howed
  have htags : s.Apart ((left.map (OpRecord.owed d)).map Owed.key ++ (t.setTracker d v).owed.map Owed.key) := by
    rw [← List.map_append]
    exact h.tags.perm (howed.map Owed.key)
  exact ⟨ht _ htags, fun q => (congrArg List.length (hu.queue q)).trans_le (h.room q)⟩

theorem Orderly.readJobComplete (h : s.Orderly []) (driven : List Byte) : (s.readJobComplete driven).Orderly [] := by
  unfold State.readJobComplete
  split
  · next r m l hj =>
    split
    · dsimp only
      split
      · exact h.steady (Steady.setJob_none.trans (.of_eq rfl rfl rfl rfl rfl))
      · next hpart =>
        have htags : ((s.setJob none).countFree (r.count - driven.length)).Apart
            (r.owed.key :: ([] ++ ((s.setJob none).countFree (r.count - driven.length)).owed.map Owed.key)) :=
          h.tags.perm ((owed_of_completed (operating_of_not_resetting hpart) hj).map Owed.key)
        cases m
        · exact (Orderly.of_answer (o := r.owed) htags h.room .read .done _).close
        · exact (Orderly.of_answer (o := r.owed) htags h.room .read .aborted _).close
    · exact h
  · exact h

/-- The request in flight becomes a record of its device (R54). -/
theorem Steady.push (hpart : s.part = .operating) {r : Request} {m : Bool} {sel : List SelectPeriod}
    (hj : s.job = some { kind := .request r m, selects := sel }) (prof : Profile) :
    s.Steady ((s.setJob none).setTracker r.device ((s.tracker r.device).push prof r m)) where
  owed x := by
    have hjoin := owed_of_join_stack (s := s.setJob none) (d := r.device) (v := (s.tracker r.device).push prof r m)
      (new := [r.toRecord prof m none]) (push_owed ..)
    exact ((((owed_of_completed hpart hj).trans hjoin.symm).map Owed.key).count_eq x).ge
  responses _ := .refl _
  queues _ := le_rfl

theorem Steady.startJobComplete : s.Steady s.startJobComplete := by
  unfold State.startJobComplete
  split
  · next r m l hj =>
    split
    · exact .of_eq rfl rfl rfl rfl rfl
    · dsimp only
      split
      · exact Steady.setJob_none.trans (.setTracker (keeps_startDiscarded _))
      · next hpart => exact (Steady.push (operating_of_not_resetting hpart) hj _).trans .reconsider
  · exact .of_eq rfl rfl rfl rfl rfl

theorem Orderly.pollResult (h : s.Orderly []) (d : Device) (b : Byte) : (s.pollResult d b).Orderly [] := by
  unfold State.pollResult
  dsimp only
  split
  · exact h
  · exact h.steady (.setTracker ⟨rfl, fun _ => rfl⟩)
  · exact h.steady (.setTracker (keeps_holdSuspended _))
  · next st hst =>
    obtain ⟨top, rest, hstack⟩ := pollEffect_finished hst
    have he : s.answerTop d st = s.answerRecord d top st.status := by
      unfold answerTop
      rw [hstack]
    rw [he]
    have hu : s.Unmoved (s.answerRecord d top st.status) := unmoved_answer ..
    refine h.leave_stack (left := [top]) ?_ hu fun l hl => hl.answer (o := top.owed d) _ _ _
    show _ = [top] ++ ((s.answerRecord d top st.status).tracker d).stack.tail
    rw [hu.records, hstack]
    rfl

theorem Orderly.pollComplete (h : s.Orderly []) (status : Option Byte) : (s.pollComplete status).Orderly [] := by
  unfold State.pollComplete
  split
  · have h₁ : ((s.setJob none).countFree (if status.isNone then 1 else 0)).Orderly [] :=
      h.steady (Steady.setJob_none.trans (.of_eq rfl rfl rfl rfl rfl))
    dsimp only
    split
    · exact h₁
    · exact (h₁.pollResult ..).close
  · exact h

theorem Steady.suspendComplete : s.Steady s.suspendComplete := by
  unfold State.suspendComplete
  split
  · dsimp only
    split
    · exact .setJob_none
    · exact (Steady.setJob_none.trans (.setTracker (keeps_suspendDone _ _))).trans .reconsider
  · exact .of_eq rfl rfl rfl rfl rfl

theorem Steady.resumeComplete : s.Steady s.resumeComplete := by
  unfold State.resumeComplete
  split
  · dsimp only
    split
    · exact .setJob_none
    · exact (Steady.setJob_none.trans (.setTracker (keeps_resumeDone _ _))).trans .reconsider
  · exact .of_eq rfl rfl rfl rfl rfl

theorem Orderly.resetDone (h : s.Orderly []) (d : Device) : (s.resetDone d).Orderly [] := by
  unfold State.resetDone
  exact h.leave_stack (left := (s.tracker d).stack) (List.append_nil _).symm (unmoved_answerAll ..)
    fun l hl => hl.answerAll

theorem Orderly.resetJobComplete (h : s.Orderly []) : s.resetJobComplete.Orderly [] := by
  unfold State.resetJobComplete
  split
  · have h₁ := h.steady .setJob_none
    dsimp only
    split
    · exact h₁
    · exact (h₁.resetDone _).close
  · exact h

/-! ## Time -/

theorem Steady.tick : s.Steady s.tick :=
  .of_keeps (fun _ => rfl) rfl (fun d => by rw [tick_tracker]; exact keeps_tick _) fun _ => .refl _

/-- The waiting requests of a device leave a port queue and are answered (R66). -/
theorem Orderly.drain (h : s.Orderly []) (d : Device) (p : Port) : (s.drain d p).Orderly [] := by
  obtain ⟨htags, hroom⟩ := h.leave_queue (List.filter_append_perm (fun r => r.device == d) (s.queue p)).symm
  exact .of_unmoved htags.answerFaults hroom (unmoved_answerFaults _)

theorem Orderly.quarantine (h : s.Orderly []) (d : Device) : (s.quarantine d).Orderly [] := by
  have h₁ : (s.setTracker d ((s.tracker d).settled .faulted)).Orderly [] := h.steady (.setTracker ⟨rfl, fun _ => rfl⟩)
  exact (((h₁.drain d .A).drain d .B).steady (.raise ..)).close

/-! ## Reset sequences and power -/

theorem Steady.cold (power : Power) (pin a b : Bool) (l : List Instr) (n : Nat) :
    s.Steady (State.cold power pin a b l n) :=
  .of_empty rfl (fun p => cold_queue p ..) (fun p => cold_out p ..) fun d => by rw [cold_tracker]; rfl

/-- A part comes into operation with the bus free (R182, R185). -/
theorem Steady.announce (h : s.Steady t) (hjob : t.job = none) (e : Half) : s.Steady (t.announce e) := by
  have hflight : ({ t with part := .operating } : State).flight = t.flight :=
    (flight_of_none (s := { t with part := .operating }) hjob).trans (flight_of_none hjob).symm
  have hpart : s.Steady { t with part := .operating } :=
    h.trans (.of_keeps (fun _ => rfl) hflight (fun _ => .refl _) fun _ => .refl _)
  exact ((((hpart.trans (.raise ..)).trans (.raise ..)).trans (.moveNotices ..)).trans (.moveNotices ..)).trans
    .driveAttention

theorem Steady.coldEnd (hl : s.Ledger []) (hp : s.power ≠ .on) : s.Steady s.coldEnd := by
  obtain ⟨_, hjob, _⟩ := hl.cold hp
  unfold State.coldEnd
  refine .announce ?_ ?_ _
  · exact .of_eq rfl rfl rfl rfl rfl
  · exact hjob

theorem Steady.sequenceEnd (he : s.sequenceMayEnd = true) : s.Steady s.sequenceEnd := by
  simp only [sequenceMayEnd, Bool.and_eq_true, Option.isNone_iff_eq_none] at he
  obtain ⟨⟨_, hjob⟩, _⟩ := he
  unfold State.sequenceEnd
  refine .announce ?_ ?_ _
  · exact .of_eq rfl rfl rfl rfl rfl
  · exact hjob

theorem Steady.pinRelease : s.Steady s.pinRelease :=
  .of_keeps (fun _ => rfl) rfl (fun d => by
    have hd : s.pinRelease.tracker d = (s.tracker d).released := by simp [State.pinRelease, tracker]
    rw [hd]
    exact ⟨rfl, fun _ => rfl⟩) fun _ => .refl _

/-! ## Every command -/

theorem Orderly.powered (h : s.Orderly []) (hu : u.Orderly []) (he : s.powered u = .next t) : t.Orderly [] := by
  obtain rfl | rfl := powered_next he
  · exact h
  · exact hu

theorem Orderly.next (hu : u.Orderly []) (he : (.next u : Host.Outcome State Fault Refusal) = .next t) :
    t.Orderly [] := by
  cases he
  exact hu

/-- Every command keeps the tags apart and the port queues within 4 (R117, R125). -/
theorem Orderly.exec (hl : s.Ledger []) (h : s.Orderly []) (c : Instr) (he : exec c s = .next t) : t.Orderly [] := by
  cases c with
  | coldStart pin a b => exact Orderly.next (h.steady (.cold ..)) he
  | powerOff => exact Orderly.next (h.steady (.cold ..)) he
  | null | read | program | erase | windowWrite | windowRead | profileWrite | profileRead | swap | freeze | handover
  | statusRead | abort | warmReset => exact h.powered (h.handRequest hl.ports ..) ((exec_handed rfl).symm.trans he)
  | coldStartEnd =>
    refine Orderly.next ?_ he
    split
    · next hp => exact h.steady (.coldEnd hl (hp ▸ nofun))
    · exact h
  | clearStep =>
    refine Orderly.next ?_ he
    split
    · exact h.steady (t := s.clear) (.of_eq rfl rfl rfl rfl rfl)
    · exact h
  | resetSequenceEnd =>
    refine Orderly.next ?_ he
    split
    · next hp => exact h.steady (.sequenceEnd hp)
    · exact h
  | resetPinAssert =>
    refine Orderly.next ?_ he
    split
    · exact h
    · exact h.steady (.of_eq rfl rfl rfl rfl rfl)
    · split
      · exact h
      · exact h.steady .pinBegin
  | resetPinRelease =>
    refine Orderly.next ?_ he
    split
    · split
      · exact h
      · next hp => exact h.steady (.coldEnd hl (hp ▸ nofun))
      · exact h.steady .pinRelease
    · exact h
  | frameBegin p => exact h.powered (h.steady (.frameBegin p)) he
  | frameEnd p x => exact h.powered (h.frameEnd hl.ports p x) he
  | inboundByte p b => exact h.powered (h.steady (.inboundByte p b)) he
  | busGrant => exact h.powered (h.steady (.busGrant hl)) he
  | readJobComplete l => exact h.powered (h.readJobComplete l) he
  | startJobComplete => exact h.powered (h.steady .startJobComplete) he
  | pollComplete b => exact h.powered (h.pollComplete b) he
  | suspendComplete => exact h.powered (h.steady .suspendComplete) he
  | resumeComplete => exact h.powered (h.steady .resumeComplete) he
  | resetJobComplete => exact h.powered h.resetJobComplete he
  | timeBaseTick => exact h.powered (h.steady .tick) he
  | clkPeriod =>
    refine h.powered ?_ he
    split
    · exact h.steady .tick
    · exact h.steady (.of_eq rfl rfl rfl rfl rfl)
  | pollTimerExpiry d =>
    refine h.powered ?_ he
    split
    · exact h.steady (.setTracker ⟨rfl, fun _ => rfl⟩)
    · exact h
  | deadlineExpiry d =>
    refine h.powered ?_ he
    split
    · next hd =>
      exact h.steady ((Steady.setTracker (keeps_timeOut (deadlineDue_stack hd) fun _ => by rfl)).trans .reconsider)
    · exact h
  | suspendSettleExpiry d =>
    refine h.powered ?_ he
    split
    · next hd =>
      exact h.steady ((Steady.setTracker (keeps_timeOut (settleDue_stack hd) fun _ => by rfl)).trans .reconsider)
    · exact h
  | resetSettleExpiry d =>
    refine h.powered ?_ he
    split
    · split
      · exact h.quarantine d
      · have hsettled : (s.tracker d).Keeps ((s.tracker d).settled .idle) := ⟨rfl, fun _ => rfl⟩
        exact h.steady ((Steady.setTracker hsettled).trans .reconsider)
    · exact h

end State

/-- Settles O53: tags and queues are orderly, with no request being handled, before the step and after it. -/
theorem tagsAndQueuesKept : Obligations.TagsAndQueuesKept := by
  intro s t hs hroom htags h
  have ht := ledgerKept s t hs h
  have horderly := (State.orderly_iff hs.ports).mpr ⟨hroom, htags⟩
  refine (State.orderly_iff ht.ports).mp ?_
  obtain rfl | ⟨c, rest, _, he⟩ := State.step_next h
  · exact horderly
  · have hl : ({ s with pending := rest } : State).Ledger [] :=
      (ledgerLaw_iff.mp hs).quiet (.of_eq rfl rfl rfl rfl rfl rfl rfl)
    exact State.Orderly.exec hl (horderly.steady (.of_eq rfl rfl rfl rfl rfl)) c he

end Sys2Proof.Machine
end

section
/-! SUPPORT. The frame of a request: its bytes are valid, and decode to the request (R144 to R146, R192). -/

namespace Sys2Proof.Machine

/-! ## Fields of several bytes (00 section 5) -/

theorem half_of_bytes (h : Half) : h.extractLsb' 8 8 ++ h.extractLsb' 0 8 = h := by
  rw [BitVec.extractLsb'_append_extractLsb'_eq_extractLsb' (by rfl)]
  exact BitVec.extractLsb'_eq_self

theorem word_of_bytes (w : Word) :
    w.extractLsb' 24 8 ++ w.extractLsb' 16 8 ++ w.extractLsb' 8 8 ++ w.extractLsb' 0 8 = w := by
  rw [BitVec.extractLsb'_append_extractLsb'_eq_extractLsb' (by rfl),
    BitVec.extractLsb'_append_extractLsb'_eq_extractLsb' (by rfl),
    BitVec.extractLsb'_append_extractLsb'_eq_extractLsb' (by rfl)]
  exact BitVec.extractLsb'_eq_self

/-- The bytes of a window record code it (12 section 12.3). -/
theorem windowRecordOf_bytes (r : WindowRecord) : windowRecordOf r.bytes = r := by
  obtain ⟨state, owners, device, flags, rightsA, rightsB, useCount, logicalBase, size, bank0, bank1⟩ := r
  exact WindowRecord.mk.injEq .. ▸ ⟨rfl, rfl, rfl, rfl, rfl, rfl, half_of_bytes useCount, word_of_bytes logicalBase,
    word_of_bytes size, word_of_bytes bank0, word_of_bytes bank1⟩

/-- The bytes of a profile record code it (12 section 12.3). -/
theorem profileRecordOf_bytes (r : ProfileRecord) : profileRecordOf r.bytes = r := by
  simp only [profileRecordOf, unitRecordAt, halfAt, ProfileRecord.bytes, UnitRecord.bytes, bytesOfHalf,
    List.cons_append, List.nil_append, List.getD_cons_succ, List.getD_cons_zero, half_of_bytes]

/-! ## Valid frames (R144, R146) -/

/-- Bytes closed by their check, with a payload of m bytes, are a valid frame where their kind implies m payload bytes
or any number (R144, R145). -/
theorem frameBytesValid_withCheck {x : List Byte} {m : Nat} (hlen : x.length = 8 + m) (hm : m ≤ 256)
    (hsize : impliedPayload (x.getD 0 0) (halfAt x 6) = none ∨ impliedPayload (x.getD 0 0) (halfAt x 6) = some m) :
    frameBytesValid (withCheck x) = true := by
  have hlength : (withCheck x).length = 10 + m := by
    simp [withCheck, bytesOfHalf, hlen]
    omega
  have hget : ∀ i < 8, (withCheck x).getD i 0 = x.getD i 0 := fun i hi =>
    List.getD_append _ _ _ _ (by omega)
  have hhalf : halfAt (withCheck x) 6 = halfAt x 6 := by
    simp only [halfAt]
    rw [hget 6 (by omega), hget 7 (by omega)]
  have hcheck : halfAt (withCheck x) (10 + m - 2) = crc ((withCheck x).take (10 + m - 2)) := by
    have hx : 10 + m - 2 = x.length := by omega
    rw [hx, withCheck, List.take_left]
    simp [halfAt, bytesOfHalf, half_of_bytes]
  have hmax : 10 + m ≤ Config.heldBytes := Nat.add_le_add_left hm 10
  rw [frameBytesValid, hlength, hget 0 (by omega), hhalf, hcheck]
  obtain h | h := hsize <;> rw [h] <;> simp [Config.minFrameBytes, hmax]

theorem length_le_of_frameBytesValid {bs : List Byte} (h : frameBytesValid bs = true) : bs.length ≤ 266 := by
  simp only [frameBytesValid, Bool.and_eq_true, decide_eq_true_eq] at h
  obtain ⟨⟨⟨_, hmax⟩, _⟩, _⟩ := h
  exact hmax

/-- What lies between the length field and the check (12 section 12.1). -/
theorem framePayload_withCheck {x : List Byte} {m : Nat} (hlen : x.length = 8 + m) :
    framePayload (withCheck x) = x.drop 8 := by
  have hlength : (withCheck x).length - Config.minFrameBytes = (x.drop 8).length := by
    simp [withCheck, bytesOfHalf, Config.minFrameBytes]
  rw [framePayload, hlength, withCheck, List.drop_append_of_le_length (by omega), List.take_left]

/-- The frame of a well-formed request is valid, and decodes to the request's tag and the request (R144 to R146, R192;
12 sections 12.1 and 12.4). -/
theorem requestFrame_decodes {i : Instr} {p : Port} {tag : Byte} {q : FrameRequest} {bs : List Byte}
    (hw : i.wellFormed = true) (hi : handed i = some (p, tag, q)) (hb : requestFrame i = some bs) :
    frameBytesValid bs = true ∧ frameTag bs = tag ∧ frameRequest bs = q := by
  cases i <;> cases hi <;> cases hb
  case null =>
    exact ⟨frameBytesValid_withCheck (m := 0) rfl (by decide) (.inl rfl), rfl, rfl⟩
  case read a n =>
    exact ⟨frameBytesValid_withCheck (m := 0) rfl (by decide) (.inr rfl), rfl,
      congrArg₂ FrameRequest.read (word_of_bytes a) (half_of_bytes n)⟩
  case program a data =>
    have hdata : data.length ≤ 256 := of_decide_eq_true hw
    have hlen : ([RequestKind.program.code, tag] ++ bytesOfWord a ++ bytesOfHalf (BitVec.ofNat 16 data.length)
        ++ data).length = 8 + data.length := (List.length_append ..).trans rfl
    have hsize : (BitVec.ofNat 16 data.length).toNat = data.length := Nat.mod_eq_of_lt (by omega)
    refine ⟨frameBytesValid_withCheck hlen hdata (.inr ?_), rfl,
      congrArg₂ FrameRequest.program (word_of_bytes a) (framePayload_withCheck hlen)⟩
    exact congrArg some ((congrArg BitVec.toNat (half_of_bytes _)).trans hsize)
  case erase a k =>
    exact ⟨frameBytesValid_withCheck (m := 0) rfl (by decide) (.inr rfl), rfl,
      congrArg₂ FrameRequest.erase (word_of_bytes a) (half_of_bytes k)⟩
  case windowWrite n r =>
    have hlen : ([RequestKind.windowWrite.code, tag] ++ bytesOfWord n ++ bytesOfHalf 0 ++ r.bytes).length = 8 + 24 :=
      rfl
    have hrecord := (congrArg windowRecordOf (framePayload_withCheck hlen)).trans (windowRecordOf_bytes r)
    exact ⟨frameBytesValid_withCheck hlen (by decide) (.inr rfl), rfl,
      congrArg₂ FrameRequest.windowWrite (word_of_bytes n) hrecord⟩
  case profileWrite n r =>
    have hlen : ([RequestKind.profileWrite.code, tag] ++ bytesOfWord n ++ bytesOfHalf 0 ++ r.bytes).length = 8 + 40 :=
      rfl
    have hrecord := (congrArg profileRecordOf (framePayload_withCheck hlen)).trans (profileRecordOf_bytes r)
    exact ⟨frameBytesValid_withCheck hlen (by decide) (.inr rfl), rfl,
      congrArg₂ FrameRequest.profileWrite (word_of_bytes n) hrecord⟩
  case windowRead n =>
    exact ⟨frameBytesValid_withCheck (m := 0) rfl (by decide) (.inr rfl), rfl,
      congrArg FrameRequest.windowRead (word_of_bytes n)⟩
  case profileRead n =>
    exact ⟨frameBytesValid_withCheck (m := 0) rfl (by decide) (.inr rfl), rfl,
      congrArg FrameRequest.profileRead (word_of_bytes n)⟩
  case swap n =>
    exact ⟨frameBytesValid_withCheck (m := 0) rfl (by decide) (.inr rfl), rfl,
      congrArg FrameRequest.swap (word_of_bytes n)⟩
  case freeze | handover =>
    exact ⟨frameBytesValid_withCheck (m := 0) rfl (by decide) (.inr rfl), rfl, rfl⟩
  case statusRead c =>
    exact ⟨frameBytesValid_withCheck (m := 1) rfl (by decide) (.inr rfl), rfl, by cases c <;> rfl⟩
  case abort target _ =>
    exact ⟨frameBytesValid_withCheck (m := 0) rfl (by decide) (.inr rfl), rfl, by cases target <;> rfl⟩
  case warmReset e =>
    exact ⟨frameBytesValid_withCheck (m := 0) rfl (by decide) (.inr rfl), rfl,
      congrArg FrameRequest.warmReset (half_of_bytes e)⟩

end Sys2Proof.Machine
end

section
/-! SUPPORT. A request's frame sent byte by byte over its link (R143, R151 to R153). -/

namespace Sys2Proof.Machine

/-! ## Commands taken one after another -/

theorem runAll_append {l l' : List Instr} {s t : State} (h : runAll l s = .next t) :
    runAll (l ++ l') s = runAll l' t := by
  induction l generalizing s with
  | nil =>
    cases h
    rfl
  | cons c l ih =>
    rw [List.cons_append, runAll]
    rw [runAll] at h
    split at h
    · exact ih h
    · cases h
    · cases h

theorem runAll_cons {c : Instr} {l : List Instr} {s t : State} (h : exec c s = .next t) :
    runAll (c :: l) s = runAll l t := by
  rw [runAll, h]

theorem runAll_singleton (c : Instr) (s : State) : runAll [c] s = exec c s := by
  rw [runAll]
  cases exec c s <;> rfl

/-! ## The bytes of a frame in progress (R143) -/

/-- The link with a frame in progress of which some bytes have come, the byte shifted out last being given. -/
def Link.inFrame (l : Link) (count : Nat) (f : Frame) (out : Option Byte) : Link :=
  { l with count := count, select := .frame f, dout := out }

/-- The select is released, and nothing stands on the outbound data line (R143, R151). -/
structure Link.Idle (l : Link) : Prop where
  released : l.select = .released
  dout : l.dout = none
  doutBits : l.doutBits = []

namespace State

variable {s : State} {p : Port} {f : Frame}

@[simp] theorem setLink_setLink (v w : Link) : (s.setLink p v).setLink p w = s.setLink p w :=
  congrArg (fun l => { s with links := l }) (PerPort.set_set ..)

/-- A frame begins on a link whose select is released and whose data line is idle (R143, R151). -/
theorem exec_frameBegin (hp : s.power ≠ .off) (hidle : (s.link p).Idle) : exec (.frameBegin p) s
    = .next (s.setLink p ((s.link p).inFrame 0 (s.newFrame p) none)) := by
  refine (s.powered_on _ hp).trans (congrArg _ ?_)
  rw [frameBegin, hidle.released, Link.inFrame, hidle.doutBits]

/-- One byte of a frame that the link can hold. -/
theorem exec_inboundByte (hp : s.power ≠ .off) {l : Link} {n : Nat} (hn : n < 266) (out : Option Byte) (b : Byte) :
    exec (.inboundByte p b) (s.setLink p (l.inFrame n f out)) = .next (s.setLink p
      (l.inFrame (n + 1) { f with held := f.held ++ [b] } (some (f.outByte n)))) := by
  refine ((s.setLink p _).powered_on _ hp).trans (congrArg _ ?_)
  rw [inboundByte, link_setLink_self]
  dsimp only [Link.inFrame]
  rw [countByte, if_pos (show n ≤ Config.heldBytes from hn.le), Frame.take, if_pos (show n < Config.heldBytes from hn),
    setLink_setLink]

/-- The bytes of a frame that the link can hold are all held, in their order (R143). -/
theorem runAll_inboundBytes (hp : s.power ≠ .off) {l : Link} {bs : List Byte} {n : Nat} (hn : n + bs.length ≤ 266)
    (out : Option Byte) : ∃ out', runAll (bs.map (.inboundByte p)) (s.setLink p (l.inFrame n f out))
      = .next (s.setLink p (l.inFrame (n + bs.length) { f with held := f.held ++ bs } out')) := by
  induction bs generalizing n f out with
  | nil => exact ⟨out, by rw [List.append_nil]; rfl⟩
  | cons b bs ih =>
    rw [List.length_cons] at hn
    obtain ⟨out', hrest⟩ := ih (f := { f with held := f.held ++ [b] }) (n := n + 1) (by omega) (some (f.outByte n))
    refine ⟨out', (runAll_cons (exec_inboundByte hp (by omega) out b)).trans (hrest.trans ?_)⟩
    rw [List.length_cons, Nat.add_comm bs.length 1, ← Nat.add_assoc, List.append_cons f.held b bs]

/-! ## The end of the frame (R138, R152, R153) -/

/-- A frame that latched no message, on a port with no notice to move, leaves the count of its bytes and nothing
else. -/
theorem frameClosed_inFrame {n : Nat} {out : Option Byte} (hlatch : f.latched = none)
    (hnotices : (s.out p).notices = .empty) (hidle : (s.link p).Idle) :
    (s.setLink p ((s.link p).inFrame n f out)).frameClosed p f
      = { s with links := s.links.set p { s.link p with count := n } } := by
  have hlink : ({ s.link p with count := n, select := .released, dout := none, doutBits := [] } : Link)
      = { s.link p with count := n } := by
    rw [← hidle.released, ← hidle.dout, ← hidle.doutBits]
  have hout : (s.out p).moveNotices = s.out p := Outbound.moveNotices_of_quiet _ (.inl hnotices)
  rw [frameClosed, link_setLink_self, hlatch]
  dsimp only [Option.any_none, Link.inFrame]
  rw [if_neg Bool.false_ne_true, hlink, setLink_out, hout]
  exact congrArg₂ (fun l o => { s with links := l, outbound := o }) (PerPort.set_set ..) (PerPort.set_get ..)

/-- A request's frame ends on a port with nothing to remove and nothing to move: what is left of the frame is the
count of its bytes. -/
theorem exec_frameEnd_inFrame {i : Instr} {n : Nat} {out : Option Byte} (hp : s.power ≠ .off)
    (hlatch : f.latched = none) (hnotices : (s.out p).notices = .empty) (hidle : (s.link p).Idle)
    (hattention : AttentionLaw s) (hn : n ≤ 266)
    (hvalid : frameBytesValid f.held = true) (hi : handed i = some (p, frameTag f.held, frameRequest f.held)) :
    exec (.frameEnd p 0) (s.setLink p ((s.link p).inFrame n f out))
      = exec i { s with links := s.links.set p { s.link p with count := n } } := by
  have hlink := s.link_setLink_self p ((s.link p).inFrame n f out)
  have hselect : ((s.setLink p ((s.link p).inFrame n f out)).link p).select = .frame f := congrArg Link.select hlink
  have hcount : ((s.setLink p ((s.link p).inFrame n f out)).link p).count ≤ 266 :=
    (congrArg Link.count hlink).trans_le hn
  rw [frameEndRunsItsRequest i p (s.setLink p _) f hp hselect hcount hvalid hi,
    frameClosed_inFrame hlatch hnotices hidle]
  exact congrArg (exec i) (driveAttention_of_law _ hattention)

end State

/-- Settles O11: the bytes collected between the frame's beginning and its end are the request's frame, which decodes
to the request, and its end runs it. -/
theorem wholeFrameIsItsRequest : Obligations.WholeFrameIsItsRequest := by
  intro i p tag q bs s hw hi hb hp hsel hdout hbits hqueue hnotices hattention
  obtain ⟨hvalid, rfl, rfl⟩ := requestFrame_decodes hw hi hb
  have hidle : (s.link p).Idle := ⟨hsel, hdout, hbits⟩
  have hlen := length_le_of_frameBytesValid hvalid
  have hlatch : (s.newFrame p).latched = none := by
    rw [State.newFrame, hqueue]
    rfl
  have hbegin := State.exec_frameBegin hp hidle
  obtain ⟨out, hbytes⟩ := State.runAll_inboundBytes (p := p) (l := s.link p) (f := s.newFrame p) (bs := bs) (n := 0)
    hp (by omega) none
  rw [Nat.zero_add] at hbytes
  rw [List.append_assoc, List.singleton_append, runAll_cons hbegin, runAll_append hbytes, runAll_singleton]
  exact State.exec_frameEnd_inFrame (f := { s.newFrame p with held := bs }) hp hlatch hnotices hidle hattention hlen
    hvalid hi

end Sys2Proof.Machine
end

section
/-! SUPPORT. The pending notices of a port in the order of R138, and what the moves at the close of an event leave of
them. -/

namespace Sys2Proof.Machine

/-! ## Pending notices in their order (R138) -/

/-- The pending notices in the order in which they are moved (R138). -/
def NoticeSet.waiting (n : NoticeSet) : List Notice :=
  [n.resetDone.map Notice.resetDone, n.deviceFault.map Notice.deviceFault, n.swapDone.map Notice.swapDone,
    n.managerChanged.map Notice.managerChanged, n.denial.map Notice.denial].reduceOption

namespace NoticeSet

variable {n rest : NoticeSet} {x : Notice}

/-- The notice that is moved first is the head of those that wait. -/
theorem waiting_of_takeFirst (h : n.takeFirst = some (x, rest)) : n.waiting = x :: rest.waiting := by
  unfold takeFirst at h
  repeat' split at h
  all_goals cases h
  all_goals simp [waiting, List.reduceOption, *]

@[simp] theorem waiting_empty : empty.waiting = [] := rfl

theorem waiting_eq_nil : n.waiting = [] ↔ n = .empty := by
  refine ⟨fun h => Outbound.takeFirst_eq_none.mp ?_, fun h => by rw [h, waiting_empty]⟩
  by_contra hne
  obtain ⟨⟨x, rest⟩, hx⟩ := Option.ne_none_iff_exists'.mp hne
  rw [waiting_of_takeFirst hx] at h
  cases h

/-- There are five kinds of notices (R135). -/
theorem length_waiting_le : n.waiting.length ≤ 5 := List.reduceOption_length_le _

end NoticeSet

/-! ## The moves of R138 -/

namespace Outbound

/-- Each of a number of moves takes the first pending notice, as long as one is pending and there is room (R138). -/
theorem moveOne_iterate (k : Nat) (o : Outbound) :
    (moveOne^[k] o).queue = o.queue ++ (o.notices.waiting.take (min k (8 - o.sum))).map .notice
      ∧ (moveOne^[k] o).notices.waiting = o.notices.waiting.drop (min k (8 - o.sum)) := by
  induction k generalizing o with
  | zero => simp
  | succ k ih =>
    rw [Function.iterate_succ_apply]
    obtain ⟨hstay, hquiet⟩ | ⟨x, rest, hroom, hfirst, hmove⟩ := o.moveOne_cases
    · obtain ⟨hqueue, hwaiting⟩ := ih o
      rw [hstay, hqueue, hwaiting]
      rcases hquiet with hfull | hnone
      · have hroom : 8 - o.sum = 0 := Nat.sub_eq_zero_of_le hfull
        simp [hroom]
      · rw [takeFirst_eq_none.mp hnone]
        simp
    · have hsum : o.moveOne.sum = o.sum + 1 := by
        rw [hmove]
        simp only [sum, List.length_append, List.length_singleton]
        omega
      have hmin : min (k + 1) (8 - o.sum) = min k (8 - (o.sum + 1)) + 1 := by
        rw [Config.outboundCapacity] at hroom
        omega
      obtain ⟨hqueue, hwaiting⟩ := ih o.moveOne
      rw [hqueue, hwaiting, hsum, hmin, hmove, NoticeSet.waiting_of_takeFirst hfirst]
      simp

variable (o : Outbound)

/-- Five moves serve every pending notice for which there is room. -/
theorem min_five_room : o.notices.waiting.take (min 5 (8 - o.sum)) = o.notices.waiting.take (8 - o.sum)
    ∧ o.notices.waiting.drop (min 5 (8 - o.sum)) = o.notices.waiting.drop (8 - o.sum) := by
  have hlen := o.notices.length_waiting_le
  rcases le_total 5 (8 - o.sum) with h | h
  · rw [min_eq_left h, List.take_of_length_le hlen, List.take_of_length_le (hlen.trans h),
      List.drop_of_length_le hlen, List.drop_of_length_le (hlen.trans h)]
    exact ⟨rfl, rfl⟩
  · rw [min_eq_right h]
    exact ⟨rfl, rfl⟩

/-- The notices for which there is room join the tail of the queue in their order (R138). -/
theorem moveNotices_queue :
    o.moveNotices.queue = o.queue ++ (o.notices.waiting.take (8 - o.sum)).map .notice := by
  rw [← (min_five_room o).1]
  exact (moveOne_iterate 5 o).1

/-- The other notices stay pending (R138). -/
theorem moveNotices_waiting : o.moveNotices.notices.waiting = o.notices.waiting.drop (8 - o.sum) := by
  rw [← (min_five_room o).2]
  exact (moveOne_iterate 5 o).2

theorem driveAttention_attention_iff (st : PartState) :
    (o.driveAttention st).attention = true ↔ (o.driveAttention st).queue ≠ [] ∧ st = .operating := by
  simp [driveAttention]

end Outbound

/-! ## Notices merged, and the close of an event (R136, R138, R140) -/

/-- Besides the outbound units, the close of an event changes what the trackers want. -/
theorem State.close_eq_reconsider (s : State) : s.close = { s.reconsider with outbound := s.close.outbound } := by
  unfold close driveAttention moveNotices setOut
  rfl

/-- Settles O50: the merges as R136 gives them, and the close of an event as its moves and its attention lines. -/
theorem closeMovesNotices : Obligations.CloseMovesNotices := by
  refine ⟨fun n e m p k => ⟨rfl, rfl, rfl, rfl, rfl⟩, fun s p => ?_⟩
  refine ⟨?_, ?_, ?_, ?_, s.close_eq_reconsider⟩ <;> rw [State.close_out]
  · rw [Outbound.driveAttention_queue]
    exact (s.out p).moveNotices_queue
  · rw [Outbound.driveAttention_notices]
    exact (s.out p).moveNotices_waiting
  · rw [Outbound.driveAttention_reservations]
    exact (s.out p).moveNotices_reservations
  · exact Outbound.driveAttention_attention_iff _ _

end Sys2Proof.Machine
end

section
/-! SUPPORT. What an update does to the outbound units and the links: the laws that hold within an event, and those that
its close restores (R132, R138, R140, R143, R152, R155). -/

namespace Sys2Proof.Machine

/-! ## Units and links -/

namespace Outbound

variable {o : Outbound}

/-- After the moves nothing is pending, or there is no room (R138). -/
theorem moveNotices_settled (o : Outbound) :
    o.moveNotices.notices = .empty ∨ Config.outboundCapacity ≤ o.moveNotices.sum := by
  rcases le_total o.notices.waiting.length (8 - o.sum) with h | h
  · left
    rw [← NoticeSet.waiting_eq_nil, moveNotices_waiting, List.drop_of_length_le h]
  · right
    rw [sum, moveNotices_queue, moveNotices_reservations, List.length_append, List.length_map, List.length_take_of_le h]
    simp only [Config.outboundCapacity, sum]
    omega

theorem removeHead_sum_le (o : Outbound) : o.removeHead.sum ≤ o.sum := by
  simp only [sum, removeHead_queue, removeHead_reservations, List.length_tail]
  omega

end Outbound

/-- A message stays at the head of a queue that grows at its tail (R130). -/
theorem head?_map_of_prefix {α β : Type} {l l' : List α} {f : α → β} {b : β} (h : l <+: l')
    (hl : l.head?.map f = some b) : l'.head?.map f = some b := by
  obtain ⟨rest, rfl⟩ := h
  cases l with
  | nil => cases hl
  | cons a l => exact hl

namespace Link

variable {l l' : Link}

/-- The parts of a link that its laws speak of: select and byte count. -/
theorem tidy_of_eq (h : l.tidy) (hs : l'.select = l.select) (hc : l'.count = l.count) : l'.tidy := by
  unfold tidy
  rw [hs, hc]
  exact h

/-- A link whose select period is no frame holds no bytes. -/
theorem tidy_of_no_frame (hc : l.count ≤ 267) (hs : ∀ f, l.select ≠ .frame f) : l.tidy :=
  ⟨hc, fun f h => absurd h (hs f)⟩

theorem cold_select_ne_frame (b : Bool) (f : Frame) : (Link.cold b).select ≠ .frame f := by
  cases b <;> exact nofun

theorem tidy_cold (b : Bool) : (Link.cold b).tidy := tidy_of_no_frame (Nat.zero_le _) (cold_select_ne_frame b)

/-- Frames in progress that run out in fill keep the bytes they hold and latch no message (R155). -/
theorem toFill_cases (l : Link) : (∃ f, l.select = .frame f
      ∧ l.toFill = { l with select := .frame { f with stream := [], latched := none } })
    ∨ (∀ f, l.select ≠ .frame f) ∧ l.toFill = l := by
  unfold toFill
  cases l.select with
  | frame f => exact .inl ⟨f, rfl, rfl⟩
  | released | ignored => exact .inr ⟨nofun, rfl⟩

theorem tidy_toFill (h : l.tidy) : l.toFill.tidy := by
  obtain ⟨f, hf, e⟩ | ⟨_, e⟩ := l.toFill_cases
  · rw [e]
    exact ⟨h.1, fun g hg => by cases hg; exact h.2 f hf⟩
  · rwa [e]

theorem toFill_latched {f : Frame} (h : l.toFill.select = .frame f) : f.latched = none := by
  obtain ⟨g, _, e⟩ | ⟨hn, e⟩ := l.toFill_cases
  · rw [e] at h
    cases h
    rfl
  · exact absurd (e ▸ h) (hn f)

/-- The count goes on with every byte, and the first 266 are held (R143). -/
theorem tidy_take {f : Frame} (h : l.tidy) (hf : l.select = .frame f) (b : Byte) (out : Option Byte) :
    ({ l with count := countByte l.count, select := .frame (f.take l.count b), dout := out } : Link).tidy := by
  obtain ⟨hcount, hheld⟩ := h
  have hlen := hheld f hf
  refine ⟨?_, fun g hg => ?_⟩
  · show countByte l.count ≤ 267
    rw [countByte_eq hcount]
    exact min_le_right ..
  · cases hg
    show (if l.count < 266 then f.held ++ [b] else f.held).length = min (countByte l.count) 266
    rw [countByte_eq hcount]
    rw [Config.heldBytes] at hlen
    split
    · rw [List.length_append, List.length_singleton, hlen]
      omega
    · omega

end Link

/-! ## The laws within an event -/

/-- The laws that hold also within an event, before notices are moved and attention lines driven: capacity (R132),
the bytes of frames (R143) and the latched messages (R152). -/
structure State.Carries (s : State) : Prop where
  capacity : CapacityLaw s
  frames : FrameLaw s
  latched : LatchLaw s

/-- An update that leaves the frames alone, takes no capacity, and adds messages at the tails of the queues only. -/
structure State.Follows (s t : State) : Prop where
  queues : ∀ p, (s.out p).queue <+: (t.out p).queue
  sums : ∀ p, (t.out p).sum = (s.out p).sum
  selects : ∀ p, (t.link p).select = (s.link p).select
  counts : ∀ p, (t.link p).count = (s.link p).count

namespace State

variable {s t u : State} {p : Port} {tag : Byte} {d : Device} {held : List Port} {l : List Owed}

theorem Follows.trans (h : s.Follows t) (h' : t.Follows u) : s.Follows u where
  queues p := (h.queues p).trans (h'.queues p)
  sums p := (h'.sums p).trans (h.sums p)
  selects p := (h'.selects p).trans (h.selects p)
  counts p := (h'.counts p).trans (h.counts p)

theorem Follows.of_eq (hout : t.outbound = s.outbound) (hlink : t.links = s.links) : s.Follows t where
  queues p := by simp only [out, hout]; exact List.prefix_rfl
  sums p := by simp only [out, hout]
  selects p := by simp only [link, hlink]
  counts p := by simp only [link, hlink]

theorem Follows.setOut {v : Outbound} (hq : (s.out p).queue <+: v.queue) (hs : v.sum = (s.out p).sum) :
    s.Follows (s.setOut p v) where
  queues q := by
    rw [out_setOut]
    split
    · next e => rwa [e]
    · exact List.prefix_rfl
  sums q := by
    rw [out_setOut]
    split
    · next e => rw [e, hs]
    · rfl
  selects _ := rfl
  counts _ := rfl

/-- A notice takes no capacity before it is moved (R135). -/
theorem Follows.raise (p : Port) (n : Notice) : s.Follows (s.raise p n) := .setOut List.prefix_rfl rfl

/-- A response takes the place of its reservation at the tail of the queue (R130, R132). -/
theorem Follows.respond (h : 0 < (s.out p).reservations) (m : Message) : s.Follows (s.respond p m) :=
  .setOut (List.prefix_append _ _) ((s.out p).respond_sum m h)

theorem Follows.lowerUse (w : WindowNo) : s.Follows (s.lowerUse w) := by
  obtain ⟨_, _, e⟩ | ⟨_, e⟩ := s.lowerUse_cases w
  · rw [e]
    refine .trans (t := s.setWindow w _) ?_ (.raise ..)
    exact .of_eq rfl rfl
  · rw [e]
    exact .of_eq rfl rfl

theorem Follows.answer (h : 0 < (s.out p).reservations) (m : Message) (w : WindowNo) (d : Device) :
    s.Follows (s.answer p m w d) :=
  ((Follows.respond h m).trans (.of_eq (t := (s.respond p m).lowerRef d) rfl rfl)).trans (.lowerUse w)

/-! ## The reservations that answers give back (R132) -/

theorem Tally.reservation_of_held (h : s.Tally (p :: held) l) : 0 < (s.out p).reservations := by
  rw [h.reservations p, List.count_cons_self]
  omega

theorem Tally.reservation_of_owed {o : Owed} (h : s.Tally held (o :: l)) : 0 < (s.out o.port).reservations := by
  rw [h.reservations o.port, List.countP_cons_of_pos (by simp)]
  omega

/-- The records of a list, all on one device, are answered in turn (R63). -/
theorem Follows.answerAll {recs : List OpRecord} (h : s.Tally held (recs.map (OpRecord.owed d) ++ l)) :
    s.Follows (s.answerAll d recs) := by
  induction recs generalizing s with
  | nil => exact .of_eq rfl rfl
  | cons rec rest ih => exact (Follows.answer h.reservation_of_owed ..).trans (ih (h.answer (o := rec.owed d) _))

/-- The waiting requests of a list are answered in turn (R66). -/
theorem Follows.answerFaults {rs : List Request} (h : s.Tally held (rs.map Request.owed ++ l)) :
    s.Follows (s.answerFaults rs) := by
  induction rs generalizing s with
  | nil => exact .of_eq rfl rfl
  | cons r rest ih => exact (Follows.answer h.reservation_of_owed ..).trans (ih (h.answer (o := r.owed) _))

/-! ## What the close of an event restores -/

theorem Carries.follows (h : s.Carries) (hf : s.Follows t) : t.Carries where
  capacity p := (hf.sums p).trans_le (h.capacity p)
  frames p := Link.tidy_of_eq (h.frames p) (hf.selects p) (hf.counts p)
  latched p f n hs hn := head?_map_of_prefix (hf.queues p) (h.latched p f n (hf.selects p ▸ hs) hn)

/-- One outbound unit with more messages at its tail, within its capacity. -/
theorem Carries.setOut {v : Outbound} (h : s.Carries) (hs : v.sum ≤ Config.outboundCapacity)
    (hlatch : ∀ f n, (s.link p).select = .frame f → f.latched = some n → v.queue.head?.map Message.size = some n) :
    (s.setOut p v).Carries where
  capacity q := by
    rw [out_setOut]
    split
    · exact hs
    · exact h.capacity q
  frames := h.frames
  latched q f n hf hn := by
    rw [out_setOut]
    split
    · next e => exact hlatch f n (e ▸ hf) hn
    · exact h.latched q f n hf hn

theorem Carries.moveNotices (h : s.Carries) (p : Port) : (s.moveNotices p).Carries :=
  h.setOut (Outbound.moveNotices_sum_le _ (h.capacity p)) fun f n hf hn =>
    head?_map_of_prefix (s.out p).moveNotices_prefix (h.latched p f n hf hn)

theorem attentionLaw_driveAttention (s : State) : AttentionLaw s.driveAttention := fun p => by
  rw [driveAttention_out]
  rfl

/-- Driving the attention lines restores the last of the laws (R140). -/
theorem Carries.driveAttention (h : s.Carries) (hn : NoticeLaw s) : OutboundLaws s.driveAttention where
  capacity p := by rw [driveAttention_out]; exact h.capacity p
  notices p := by rw [driveAttention_out]; exact hn p
  attention := attentionLaw_driveAttention s
  frames := h.frames
  latched p := by rw [driveAttention_out]; exact h.latched p

/-- Notices moved on both ports and attention lines driven: the laws hold again (R138, R140). -/
theorem Carries.served (h : s.Carries) : OutboundLaws ((s.moveNotices .A).moveNotices .B).driveAttention := by
  refine ((h.moveNotices .A).moveNotices .B).driveAttention fun p => ?_
  rw [moveNotices_out]
  cases p with
  | A =>
    rw [if_neg nofun, moveNotices_out, if_pos rfl]
    exact (s.out .A).moveNotices_settled
  | B =>
    rw [if_pos rfl]
    exact Outbound.moveNotices_settled _

theorem Carries.close (h : s.Carries) : OutboundLaws s.close :=
  (h.follows (t := s.reconsider) (.of_eq rfl rfl)).served

/-- The part comes into operation with RESET_DONE on both ports (R182, R185). -/
theorem Carries.announce (h : s.Carries) (e : Half) : OutboundLaws (s.announce e) := by
  have hpart : s.Follows { s with part := .operating } := .of_eq rfl rfl
  exact (h.follows ((hpart.trans (.raise .A (.resetDone e))).trans (.raise .B (.resetDone e)))).served

end State

namespace OutboundLaws

variable {s t : State} {p : Port} {tag : Byte}

theorem carries (h : OutboundLaws s) : s.Carries := ⟨h.capacity, h.frames, h.latched⟩

/-- An update that leaves alone part state, outbound units, selects and byte counts. -/
theorem of_same (h : OutboundLaws s) (hpart : t.part = s.part) (hout : t.outbound = s.outbound)
    (hlink : ∀ p, (t.link p).select = (s.link p).select ∧ (t.link p).count = (s.link p).count) : OutboundLaws t := by
  have hout : ∀ p, t.out p = s.out p := fun p => congrArg (PerPort.get · p) hout
  have hfollows : s.Follows t := ⟨fun p => by rw [hout p], fun p => by rw [hout p], fun p => (hlink p).1,
    fun p => (hlink p).2⟩
  obtain ⟨hcapacity, hframes, hlatched⟩ := h.carries.follows hfollows
  exact ⟨hcapacity, fun p => hout p ▸ h.notices p, fun p => by rw [hout p, hpart]; exact h.attention p, hframes,
    hlatched⟩

/-- An update that leaves alone part state, outbound units and links. -/
theorem of_eq (h : OutboundLaws s) (hpart : t.part = s.part) (hout : t.outbound = s.outbound)
    (hlink : t.links = s.links) : OutboundLaws t :=
  h.of_same hpart hout fun p => by simp only [State.link, hlink, and_self]

/-- A part with nothing in its outbound units, whose frames latch no message (R141, R155). -/
theorem of_empty (hout : ∀ p, t.out p = .empty) (hframes : FrameLaw t)
    (hlatch : ∀ p f, (t.link p).select = .frame f → f.latched = none) : OutboundLaws t where
  capacity p := by rw [hout]; exact Nat.zero_le _
  notices p := by rw [hout]; exact .inl rfl
  attention p := by rw [hout]; rfl
  frames := hframes
  latched p f n hf hn := by rw [hlatch p f hf] at hn; cases hn

/-- Another link on one port, with the frame that the port's outbound unit allows. -/
theorem setLink {v : Link} (h : OutboundLaws s) (htidy : v.tidy)
    (hlatch : ∀ f n, v.select = .frame f → f.latched = some n →
      (s.out p).queue.head?.map Message.size = some n) : OutboundLaws (s.setLink p v) where
  capacity := h.capacity
  notices := h.notices
  attention := h.attention
  frames q := by
    rw [State.link_setLink]
    split
    · exact htidy
    · exact h.frames q
  latched q f n hf hn := by
    rw [State.link_setLink] at hf
    split at hf
    · next e => subst e; exact hlatch f n hf hn
    · exact h.latched q f n hf hn

theorem writeReceipt (h : OutboundLaws s) (p : Port) (tag : Byte) (c : ReceiptCode) :
    OutboundLaws (s.writeReceipt p tag c) :=
  h.setLink (Link.tidy_of_eq (h.frames p) rfl rfl) (h.latched p)

theorem badFrame (h : OutboundLaws s) (p : Port) (tag : Byte) : OutboundLaws (s.badFrame p tag) :=
  (h.setLink (v := { s.link p with badFrames := bumpHalf (s.link p).badFrames })
    (Link.tidy_of_eq (h.frames p) rfl rfl) (h.latched p)).writeReceipt ..

/-- Intake takes a reservation only where there is room, so that nothing is pending there (R113, R138). -/
theorem accept (h : OutboundLaws s) (hroom : (s.out p).sum ≠ Config.outboundCapacity) : OutboundLaws (s.accept p) := by
  have hless : (s.out p).sum < Config.outboundCapacity := lt_of_le_of_ne (h.capacity p) hroom
  have hcarries : (s.accept p).Carries := h.carries.setOut hless (h.latched p)
  refine ⟨hcarries.capacity, fun q => ?_, fun q => ?_, hcarries.frames, hcarries.latched⟩
  · rw [State.accept_out]
    split
    · exact .inl ((h.notices p).resolve_right hless.not_ge)
    · exact h.notices q
  · rw [State.accept_out]
    split
    · exact h.attention p
    · exact h.attention q

/-- A response given at once takes the reservation held for it (R124, R132). -/
theorem reply (h : OutboundLaws s) (hres : 0 < (s.out p).reservations) (k : RequestKind) (tag : Byte) (st : Status)
    (data : ResponseData) : OutboundLaws (s.reply p k tag st data) := by
  refine (h.carries.follows (.respond hres (.response k tag st data))).driveAttention fun q => ?_
  rw [State.respond_out]
  split
  · rw [Outbound.respond_notices, Outbound.respond_sum _ _ hres]
    exact h.notices p
  · exact h.notices q

end OutboundLaws
end Sys2Proof.Machine
end

section
/-! SUPPORT. Every command keeps the laws of the outbound units and the links, the ledger being kept (R132, R138, R140,
R143, R152, R155). -/

namespace Sys2Proof.Machine

namespace State

variable {s : State} {p : Port} {tag : Byte}

/-! ## Answers take no capacity (R132) -/

theorem Follows.refuse (hres : 0 < (s.out p).reservations) (k : RequestKind) (st : Status) (w : Option WindowNo) :
    s.Follows (s.refuse p tag k st w) := by
  have hr : s.Follows (s.respond p (plainResponse k tag st)) := .respond hres _
  have hd := hr.trans (.of_eq (t := (s.respond p (plainResponse k tag st)).raiseDenials p) rfl rfl)
  unfold State.refuse raiseDenialNotice
  dsimp only
  split
  · split
    · exact hd.trans (.raise ..)
    · exact hd
  · exact hr

/-- What an ABORT does to its target takes no capacity, and leaves the reservation of the ABORT itself (R172 to
R175). -/
theorem Follows.abortTarget (hl : s.Ledger [p]) (hpart : s.part = .operating) {q : Port} {v : Byte} {target : Target}
    (ht : s.findTarget q v = target) :
    s.Follows (s.abortTarget q v target) ∧ 0 < ((s.abortTarget q v target).out p).reservations := by
  have hres := hl.tally.reservation_of_held
  cases target with
  | notFound | inJob | record => exact ⟨.of_eq rfl rfl, hres⟩
  | waiting r =>
    have hr := findTarget_waiting ht
    obtain rfl := hl.ports q r hr
    have howed : 0 < (s.out r.owed.port).reservations := (hl.tally.perm
      (s.owed_of_leave_queue r.port (left := [r]) (List.perm_cons_erase hr))).reservation_of_owed
    have hqueue : s.Follows (s.setQueue r.port ((s.queue r.port).erase r)) := .of_eq rfl rfl
    exact ⟨hqueue.trans (.answer (s := s.setQueue r.port _) howed ..),
      (hl.answer_waiting hpart hr _).tally.reservation_of_held⟩

/-- A poll that ends a record answers it on its reservation (R58). -/
theorem Follows.pollResult (hl : s.Ledger []) (d : Device) (b : Byte) : s.Follows (s.pollResult d b) := by
  unfold State.pollResult
  dsimp only
  split
  · exact .of_eq rfl rfl
  · exact .of_eq rfl rfl
  · exact .of_eq rfl rfl
  · next st hst =>
    obtain ⟨top, rest, hstack⟩ := pollEffect_finished hst
    have he : s.answerTop d st = s.answerRecord d top st.status := by
      unfold answerTop
      rw [hstack]
    have hres : 0 < (s.out (top.owed d).port).reservations := (hl.tally.perm
      (owed_of_leave_stack (v := { s.tracker d with stack := rest }) (left := [top]) hstack)).reservation_of_owed
    rw [he]
    exact (Follows.answer hres ..).trans (.of_eq rfl rfl)

/-- Every record is answered on its reservation (R63). -/
theorem Follows.resetDone (hl : s.Ledger []) (d : Device) : s.Follows (s.resetDone d) := by
  have hleave := owed_of_leave_stack (s := s) (d := d) (v := { s.tracker d with stack := [] })
    (left := (s.tracker d).stack) (List.append_nil _).symm
  exact (Follows.answerAll (hl.tally.perm hleave)).trans (.of_eq rfl rfl)

/-- The waiting requests of a device are answered on their reservations (R66). -/
theorem Follows.drain (hl : s.Ledger []) (d : Device) (p : Port) : s.Follows (s.drain d p) := by
  have hleave := s.owed_of_leave_queue p (List.filter_append_perm (fun r => r.device == d) (s.queue p)).symm
  have htally : (s.setQueue p ((s.queue p).filter fun r => r.device != d)).Tally [] s.owed :=
    hl.tally.of_counts (fun _ => rfl) (fun _ => rfl) fun _ => rfl
  have hqueue : s.Follows (s.setQueue p ((s.queue p).filter fun r => r.device != d)) := .of_eq rfl rfl
  exact hqueue.trans (.answerFaults (htally.perm hleave))

end State

namespace OutboundLaws

variable {s t u : State} {p : Port} {tag : Byte} {d : Device}

/-! ## Requests: the reservation that an accepted request holds is given back, or waits with it -/

theorem memoryRequest (h : OutboundLaws s) (hres : 0 < (s.out p).reservations) (a : Word) (ask : Ask) :
    OutboundLaws (s.memoryRequest p tag a ask) := by
  unfold State.memoryRequest
  split
  · exact (h.carries.follows (State.Follows.refuse hres ..)).close
  · exact (h.carries.follows (.of_eq (t := s.enqueue _) rfl rfl)).close

theorem windowWriteDo (h : OutboundLaws s) (hres : 0 < (s.out p).reservations) (n : Word) (r : WindowRecord) :
    OutboundLaws (s.windowWriteDo p tag n r) := by
  unfold State.windowWriteDo
  split
  · exact h.reply hres ..
  · exact (h.of_eq (t := s.setWindow _ _) rfl rfl rfl).reply hres ..

theorem windowReadDo (h : OutboundLaws s) (hres : 0 < (s.out p).reservations) (n : Word) :
    OutboundLaws (s.windowReadDo p tag n) := by
  unfold State.windowReadDo
  split
  · exact h.reply hres ..
  · split <;> exact h.reply hres ..

theorem swapDo (h : OutboundLaws s) (hres : 0 < (s.out p).reservations) (n : Word) :
    OutboundLaws (s.swapDo p tag n) := by
  have hw : ∀ n v, OutboundLaws (s.setWindow n v) := fun n v => h.of_eq rfl rfl rfl
  unfold State.swapDo
  split
  · exact h.reply hres ..
  · dsimp only
    split <;> exact (hw ..).reply hres ..

theorem profileWriteDo (h : OutboundLaws s) (hres : 0 < (s.out p).reservations) (n : Word) (r : ProfileRecord) :
    OutboundLaws (s.profileWriteDo p tag n r) := by
  unfold State.profileWriteDo
  split
  · exact h.reply hres ..
  · exact (h.of_eq (t := (s.setProfile _ _).setTracker _ _) rfl rfl rfl).reply hres ..

theorem profileReadDo (h : OutboundLaws s) (hres : 0 < (s.out p).reservations) (n : Word) :
    OutboundLaws (s.profileReadDo p tag n) := by
  unfold State.profileReadDo
  split <;> exact h.reply hres ..

theorem freezeDo (h : OutboundLaws s) (hres : 0 < (s.out p).reservations) : OutboundLaws (s.freezeDo p tag) := by
  unfold State.freezeDo
  split
  · exact h.reply hres ..
  · split
    · exact h.reply hres ..
    · exact (h.of_eq (t := { s with frozen := true }) rfl rfl rfl).reply hres ..

theorem handoverDo (h : OutboundLaws s) (hres : 0 < (s.out p).reservations) : OutboundLaws (s.handoverDo p tag) := by
  unfold State.handoverDo
  split
  · exact h.reply hres ..
  · split
    · exact h.reply hres ..
    · have hm : s.Follows { s with manager := p.other } := .of_eq rfl rfl
      have hrespond := hm.trans (.respond (s := { s with manager := p.other }) hres (plainResponse .handover tag .done))
      exact (h.carries.follows ((hrespond.trans (.raise ..)).trans (.raise ..))).close

theorem clearCounts (h : OutboundLaws s) : OutboundLaws s.clearCounts :=
  h.of_same rfl rfl fun q => by cases q <;> exact ⟨rfl, rfl⟩

theorem statusReadDo (h : OutboundLaws s) (hres : 0 < (s.out p).reservations) (c : Bool) :
    OutboundLaws (s.statusReadDo p tag c) := by
  unfold State.statusReadDo
  split
  · exact h.reply hres ..
  · cases c
    · exact h.reply hres ..
    · exact h.clearCounts.reply hres ..

theorem abortDo (h : OutboundLaws s) (hl : s.Ledger [p]) (hpart : s.part = .operating) (q : Port) (v : Byte) :
    OutboundLaws (s.abortDo p tag q v) := by
  have hreply := h.reply hl.tally.reservation_of_held .abort tag
  unfold State.abortDo
  split
  · exact hreply ..
  split
  · exact hreply ..
  · obtain ⟨htarget, hres⟩ := State.Follows.abortTarget hl hpart (q := q) (v := v) rfl
    exact (h.carries.follows (htarget.trans (.respond hres _))).close

/-- The beginning of a reset sequence empties the outbound units, and frames in progress run out in fill (R141,
R155). -/
theorem of_discard (h : OutboundLaws s) (hout : t.outbound = s.discard.outbound) (hlink : t.links = s.discard.links) :
    OutboundLaws t := by
  have hlinks : ∀ p, t.link p = (s.link p).toFill := fun p => by
    rw [State.link, hlink]
    cases p <;> rfl
  refine .of_empty (fun p => ?_) (fun p => ?_) fun p f hf => ?_
  · rw [State.out, hout]
    exact s.discard_out p
  · rw [hlinks]
    exact Link.tidy_toFill (h.frames p)
  · rw [hlinks] at hf
    exact Link.toFill_latched hf

theorem warmResetDo (h : OutboundLaws s) (hres : 0 < (s.out p).reservations) (e : Half) :
    OutboundLaws (s.warmResetDo p tag e) := by
  unfold State.warmResetDo
  split
  · exact h.reply hres ..
  · split
    · exact h.reply hres ..
    · exact h.of_discard rfl rfl

/-- An accepted request is answered on the reservation it holds, or joins its queue with it (R122 to R125). -/
theorem carryOut (h : OutboundLaws s) (hl : s.Ledger [p]) (hpart : s.part = .operating) (q : FrameRequest) :
    OutboundLaws (q.carryOut p tag s) := by
  have hres := hl.tally.reservation_of_held
  cases q with
  | null | unknown => exact h
  | read | program | erase => exact h.memoryRequest hres ..
  | windowWrite => exact h.windowWriteDo hres ..
  | windowRead => exact h.windowReadDo hres ..
  | profileWrite => exact h.profileWriteDo hres ..
  | profileRead => exact h.profileReadDo hres ..
  | swap => exact h.swapDo hres ..
  | freeze => exact h.freezeDo hres
  | handover => exact h.handoverDo hres
  | statusRead => exact h.statusReadDo hres ..
  | abort => exact h.abortDo hl hpart ..
  | warmReset => exact h.warmResetDo hres ..

theorem handRequest (h : OutboundLaws s) (hl : s.Ledger []) (p : Port) (tag : Byte) (q : FrameRequest) :
    OutboundLaws (s.handRequest p tag q) := by
  rw [State.handRequest_eq]
  obtain ⟨_, e⟩ | ⟨hv, e⟩ := s.intake_cases p tag q.group (q.carryOut p tag)
  · rw [e]
    exact h.writeReceipt ..
  · obtain ⟨hpart, _, _, _, _, hroom⟩ := (s.accepted_iff p tag q.group).mp hv
    rw [e]
    exact ((h.accept hroom).carryOut (hl.accept hpart p) hpart q).writeReceipt ..

/-! ## Frames -/

/-- A frame latches the message at the head of its port's queue, and holds no byte yet (R143, R151). -/
theorem frameBegin (h : OutboundLaws s) (p : Port) : OutboundLaws (s.frameBegin p) := by
  unfold State.frameBegin
  split
  · refine h.setLink ⟨Nat.zero_le _, fun f hf => ?_⟩ fun f n hf hn => ?_
    · cases hf
      rfl
    · cases hf
      exact hn
  · exact h
  · exact h

theorem inboundByte (h : OutboundLaws s) (p : Port) (b : Byte) : OutboundLaws (s.inboundByte p b) := by
  unfold State.inboundByte
  dsimp only
  split
  · next f hf =>
    refine h.setLink (Link.tidy_take (h.frames p) hf b _) fun g n hg hn => ?_
    cases hg
    exact h.latched p f n hf hn
  · have hdout : OutboundLaws (s.setLink p { s.link p with dout := some (Config.unframedByte s.freeCount) }) :=
      h.setLink (Link.tidy_of_eq (h.frames p) rfl rfl) (h.latched p)
    exact hdout.of_eq rfl rfl rfl
  · exact h

/-- A select released leaves no frame, and the count of its bytes. -/
theorem released (h : OutboundLaws s) (p : Port) (v : Link) (hs : v.select = .released)
    (hc : v.count = (s.link p).count) : OutboundLaws (s.setLink p v) :=
  h.setLink (Link.tidy_of_no_frame (hc.trans_le (h.frames p).1) fun _ hf => nomatch hs.symm.trans hf)
    fun _ _ hf => nomatch hs.symm.trans hf

/-- Removal takes the head of a queue whose frame has ended, and leaves the other port alone (R152). -/
theorem carries_removal (h : OutboundLaws s) (hs : (s.link p).select = .released) (f : Frame) :
    (s.removal p f).Carries ∧ ∀ q, q ≠ p → (s.removal p f).out q = s.out q := by
  unfold State.removal
  split
  · refine ⟨h.carries.setOut ((s.out p).removeHead_sum_le.trans (h.capacity p)) fun g _ hg => ?_, fun q hq => ?_⟩
    · exact nomatch hs.symm.trans hg
    · rw [State.out_setOut, if_neg hq]
  · exact ⟨h.carries, fun _ _ => rfl⟩

/-- After removal the notices of the port are moved, so that the laws hold when the request comes to intake (R153). -/
theorem removed (h : OutboundLaws s) (hs : (s.link p).select = .released) (f : Frame) :
    OutboundLaws ((s.removal p f).moveNotices p).driveAttention := by
  obtain ⟨hcarries, hother⟩ := h.carries_removal hs f
  refine (hcarries.moveNotices p).driveAttention fun q => ?_
  rw [State.moveNotices_out]
  split
  · exact Outbound.moveNotices_settled _
  · next hq =>
    rw [hother q hq]
    exact h.notices q

theorem frameEnd (h : OutboundLaws s) (hl : s.Ledger []) (p : Port) (x : Fin 8) : OutboundLaws (s.frameEnd p x) := by
  unfold State.frameEnd
  split
  · exact h
  · refine of_eq (h.released p _ ?_ ?_) rfl rfl rfl <;> rfl
  · next f _ =>
    unfold State.frameEndWork
    dsimp only
    generalize hv : ({ s.link p with select := .released, dout := none, doutBits := _ } : Link) = v
    have hreleased : OutboundLaws (s.setLink p v) := h.released p v (by rw [← hv]) (by rw [← hv])
    have hlaws := hreleased.removed (p := p) (by rw [State.link_setLink_self, ← hv]) f
    have hledger : (((s.setLink p v).removal p f).moveNotices p).driveAttention.Ledger [] :=
      (((hl.quiet (.setLink p v)).quiet (.removal p f)).quiet (.moveNotices p)).quiet .driveAttention
    split
    · rw [State.handRequest_driveAttention]
      exact hlaws.handRequest hledger ..
    · exact hlaws.badFrame ..

/-! ## The bus -/

theorem busGrant (h : OutboundLaws s) : OutboundLaws s.busGrant := by
  unfold State.busGrant
  split
  · next k _ _ => cases k <;> exact h.of_eq rfl rfl rfl
  · exact h

theorem readJobComplete (h : OutboundLaws s) (hl : s.Ledger []) (driven : List Byte) :
    OutboundLaws (s.readJobComplete driven) := by
  unfold State.readJobComplete
  split
  · next r m l hj =>
    split
    · dsimp only
      split
      · exact h.of_eq rfl rfl rfl
      · next hpart =>
        have hended : s.Follows ((s.setJob none).countFree (r.count - driven.length)) := .of_eq rfl rfl
        have hres : 0 < (s.out r.port).reservations := (hl.tally.perm
          (State.owed_of_completed (State.operating_of_not_resetting hpart) hj)).reservation_of_owed
        exact (h.carries.follows (hended.trans (.answer (s := (s.setJob none).countFree _) hres ..))).close
    · exact h
  · exact h

theorem startJobComplete (h : OutboundLaws s) : OutboundLaws s.startJobComplete := by
  unfold State.startJobComplete
  split
  · split
    · exact h
    · dsimp only
      split <;> exact h.of_eq rfl rfl rfl
  · exact h

theorem pollComplete (h : OutboundLaws s) (hl : s.Ledger []) (status : Option Byte) :
    OutboundLaws (s.pollComplete status) := by
  unfold State.pollComplete
  split
  · next d l hj =>
    have hended : OutboundLaws ((s.setJob none).countFree (if status.isNone then 1 else 0)) := h.of_eq rfl rfl rfl
    have hledger := (hl.setJob_none_tracker hj).quiet (.countFree (if status.isNone then 1 else 0))
    dsimp only
    split
    · exact hended
    · exact (hended.carries.follows (State.Follows.pollResult hledger ..)).close
  · exact h

theorem suspendComplete (h : OutboundLaws s) : OutboundLaws s.suspendComplete := by
  unfold State.suspendComplete
  split
  · dsimp only
    split <;> exact h.of_eq rfl rfl rfl
  · exact h

theorem resumeComplete (h : OutboundLaws s) : OutboundLaws s.resumeComplete := by
  unfold State.resumeComplete
  split
  · dsimp only
    split <;> exact h.of_eq rfl rfl rfl
  · exact h

theorem resetJobComplete (h : OutboundLaws s) (hl : s.Ledger []) : OutboundLaws s.resetJobComplete := by
  unfold State.resetJobComplete
  split
  · next d l hj =>
    have hended : OutboundLaws (s.setJob none) := h.of_eq rfl rfl rfl
    dsimp only
    split
    · exact hended
    · exact (hended.carries.follows (State.Follows.resetDone (hl.setJob_none_tracker hj) d)).close
  · exact h

/-! ## Time -/

theorem quarantine (h : OutboundLaws s) (hl : s.Ledger []) (hpart : s.part = .operating) (d : Device) :
    OutboundLaws (s.quarantine d) := by
  have hfaulted : OutboundLaws (s.setTracker d ((s.tracker d).settled .faulted)) := h.of_eq rfl rfl rfl
  have hledger : (s.setTracker d ((s.tracker d).settled .faulted)).Ledger [] :=
    hl.setTracker_operating hpart ⟨rfl, fun _ => rfl⟩
  have hdrained := (State.Follows.drain hledger d .A).trans (State.Follows.drain (hledger.drain hpart d .A) d .B)
  exact (hfaulted.carries.follows (hdrained.trans (.raise ..))).close

/-- A recovery has no cause while a reset sequence is under way, so it ends FAULTED only in operation (R64, R69). -/
theorem resetSettle (h : OutboundLaws s) (hl : s.Ledger []) (d : Device) :
    OutboundLaws (if (s.tracker d).cause = some .timeout ∧ (s.tracker d).timeouts = 3 then s.quarantine d
      else (s.setTracker d ((s.tracker d).settled .idle)).reconsider) := by
  split
  · next hc =>
    refine h.quarantine hl (State.operating_of_not_resetting fun hpart => ?_) d
    exact absurd (((hl.discard hpart).2 d).2.symm.trans hc.1) nofun
  · exact h.of_eq rfl rfl rfl

/-! ## Reset sequences and power -/

theorem of_cold (power : Power) (pin a b : Bool) (l : List Instr) (n : Nat) :
    OutboundLaws (State.cold power pin a b l n) := by
  have hlink : ∀ p, ∃ x, (State.cold power pin a b l n).link p = .cold x := fun p => by cases p <;> exact ⟨_, rfl⟩
  refine .of_empty (fun p => State.cold_out p ..) (fun p => ?_) fun p f hf => ?_
  · obtain ⟨x, e⟩ := hlink p
    rw [e]
    exact Link.tidy_cold x
  · obtain ⟨x, e⟩ := hlink p
    exact absurd (e ▸ hf) (Link.cold_select_ne_frame x f)

/-- Links as cold start leaves them have no frame in progress (R156). -/
theorem carries_coldLinks (h : OutboundLaws s) {links : PerPort Link} (hlink : ∀ p, ∃ x, links.get p = .cold x) :
    State.Carries { s with power := .on, resetPin := false, links := links } where
  capacity := h.capacity
  frames p := by
    obtain ⟨x, e⟩ := hlink p
    rw [State.link, e]
    exact Link.tidy_cold x
  latched p f n hf := by
    obtain ⟨x, e⟩ := hlink p
    rw [State.link, e] at hf
    exact absurd hf (Link.cold_select_ne_frame x f)

theorem coldEnd (h : OutboundLaws s) : OutboundLaws s.coldEnd :=
  (h.carries_coldLinks fun p => by cases p <;> exact ⟨_, rfl⟩).announce 0

theorem sequenceEnd (h : OutboundLaws s) : OutboundLaws s.sequenceEnd :=
  State.Carries.announce (s := { s with epoch := s.epoch + 1 }) ⟨h.capacity, h.frames, h.latched⟩ _

theorem clear (h : OutboundLaws s) : OutboundLaws s.clear :=
  h.of_same rfl rfl fun q => by cases q <;> exact ⟨rfl, rfl⟩

/-! ## Every command -/

theorem powered (h : OutboundLaws s) (hu : OutboundLaws u) (he : s.powered u = .next t) : OutboundLaws t := by
  obtain rfl | rfl := State.powered_next he
  · exact h
  · exact hu

theorem next (hu : OutboundLaws u) (he : (.next u : Host.Outcome State Fault Refusal) = .next t) :
    OutboundLaws t := by
  cases he
  exact hu

/-- Every command keeps the laws of the outbound units and the links (R132, R138, R140, R143, R152). -/
theorem exec (h : OutboundLaws s) (hl : s.Ledger []) (c : Instr) (he : exec c s = .next t) : OutboundLaws t := by
  cases c with
  | coldStart | powerOff => exact next (.of_cold ..) he
  | null | read | program | erase | windowWrite | windowRead | profileWrite | profileRead | swap | freeze | handover
  | statusRead | abort | warmReset => exact h.powered (h.handRequest hl ..) ((exec_handed rfl).symm.trans he)
  | coldStartEnd =>
    refine next ?_ he
    split
    · exact h.coldEnd
    · exact h
  | clearStep =>
    refine next ?_ he
    split
    · exact h.clear
    · exact h
  | resetSequenceEnd =>
    refine next ?_ he
    split
    · exact h.sequenceEnd
    · exact h
  | resetPinAssert =>
    refine next ?_ he
    split
    · exact h
    · exact h.of_eq rfl rfl rfl
    · split
      · exact h
      · exact h.of_discard rfl rfl
  | resetPinRelease =>
    refine next ?_ he
    split
    · split
      · exact h
      · exact h.coldEnd
      · exact h.clear.of_eq rfl rfl rfl
    · exact h
  | frameBegin p => exact h.powered (h.frameBegin p) he
  | frameEnd p x => exact h.powered (h.frameEnd hl p x) he
  | inboundByte p b => exact h.powered (h.inboundByte p b) he
  | busGrant => exact h.powered h.busGrant he
  | readJobComplete l => exact h.powered (h.readJobComplete hl l) he
  | startJobComplete => exact h.powered h.startJobComplete he
  | pollComplete b => exact h.powered (h.pollComplete hl b) he
  | suspendComplete => exact h.powered h.suspendComplete he
  | resumeComplete => exact h.powered h.resumeComplete he
  | resetJobComplete => exact h.powered (h.resetJobComplete hl) he
  | timeBaseTick => exact h.powered (h.of_eq (t := s.tick) rfl rfl rfl) he
  | clkPeriod =>
    refine h.powered ?_ he
    split <;> exact h.of_eq rfl rfl rfl
  | pollTimerExpiry d =>
    refine h.powered ?_ he
    split
    · exact h.of_eq rfl rfl rfl
    · exact h
  | deadlineExpiry d | suspendSettleExpiry d =>
    refine h.powered ?_ he
    split
    · exact h.of_eq rfl rfl rfl
    · exact h
  | resetSettleExpiry d =>
    refine h.powered ?_ he
    split
    · exact h.resetSettle hl d
    · exact h

end OutboundLaws

/-- Settles O52: the laws of the units and links after every command, for the command at the front of the queue. -/
theorem outboundLawsKept : Obligations.OutboundLawsKept := by
  intro s t hs hout h
  obtain rfl | ⟨c, rest, _, he⟩ := State.step_next h
  · exact hout
  · have hl : ({ s with pending := rest } : State).Ledger [] :=
      (ledgerLaw_iff.mp hs).quiet (.of_eq rfl rfl rfl rfl rfl rfl rfl)
    have hrest : OutboundLaws { s with pending := rest } := hout.of_eq rfl rfl rfl
    exact hrest.exec hl c he

end Sys2Proof.Machine
end

section
/-! SUPPORT. The check register tells bytes apart, and runs to 0 over bytes closed by their check (R144, R146); messages
byte by byte (R151, R191). -/

namespace Sys2Proof.Machine

/-- Settles O4: the rows that are requests are the rows that have a frame, one by one. -/
theorem requestFramesDecode : Obligations.RequestFramesDecode := by
  refine ⟨fun i p tag q bs => requestFrame_decodes, fun i => ?_⟩
  cases i <;> rfl

/-! ## The register tells registers and bytes apart (R146) -/

/-- The low bit after a shift is the bit that left the top: 1021h has its low bit set. -/
theorem crcShift_getLsbD_zero (r : Half) : (crcShift r).getLsbD 0 = r.msb := by
  unfold crcShift
  split <;> simp [*]

/-- The low bit tells whether 1021h was combined, and the top bit that was lost; the other bits are shifted. -/
theorem crcShift_injective : Function.Injective crcShift := by
  intro r r' h
  have hmsb : r.msb = r'.msb := by rw [← crcShift_getLsbD_zero, h, crcShift_getLsbD_zero]
  have hshift : r <<< 1 = r' <<< 1 := by
    unfold crcShift at h
    rw [hmsb] at h
    split at h
    · exact (BitVec.xor_left_inj _).mp h
    · exact h
  refine BitVec.eq_of_getElem_eq fun i hi => ?_
  rcases Nat.lt_or_eq_of_le (Nat.le_of_lt_succ hi) with hlow | rfl
  · have hbit := congrArg (BitVec.getLsbD · (i + 1)) hshift
    have hnext : i + 1 < 16 := Nat.succ_lt_succ hlow
    simpa [hnext] using hbit
  · exact hmsb

theorem crcByte_injective_register (b : Byte) : Function.Injective (crcByte · b) := fun _ _ h =>
  (BitVec.xor_left_inj _).mp (crcShift_injective.iterate 8 h)

theorem crcByte_injective_byte (r : Half) : Function.Injective (crcByte r) := fun _ _ h =>
  (BitVec.append_left_inj 0#8).mp ((BitVec.xor_right_inj r).mp (crcShift_injective.iterate 8 h))

theorem foldl_crcByte_injective (bs : List Byte) : Function.Injective (bs.foldl crcByte ·) := by
  induction bs with
  | nil => exact Function.injective_id
  | cons a bs ih => exact ih.comp (crcByte_injective_register a)

/-- One wrong byte leaves another register, whatever bytes follow it. -/
theorem foldl_crcByte_set_ne {bs : List Byte} {i : Nat} {b : Byte} (hi : i < bs.length) (hb : bs[i]? ≠ some b)
    (r : Half) : (bs.set i b).foldl crcByte r ≠ bs.foldl crcByte r := by
  induction bs generalizing i r with
  | nil => exact absurd hi (Nat.not_lt_zero i)
  | cons a bs ih =>
    cases i with
    | zero =>
      have hba : b ≠ a := fun h => hb (congrArg some h.symm)
      exact (foldl_crcByte_injective bs).ne ((crcByte_injective_byte r).ne hba)
    | succ i => exact ih (Nat.lt_of_succ_lt_succ hi) hb (crcByte r a)

theorem crc_set_ne {bs : List Byte} {i : Nat} {b : Byte} (hi : i < bs.length) (hb : bs[i]? ≠ some b) :
    crc (bs.set i b) ≠ crc bs :=
  foldl_crcByte_set_ne hi hb 0xFFFF

/-! ## Bytes closed by their check (R144, R146) -/

/-- While no 1 leaves the top, the register only shifts. -/
theorem crcShift_iterate_toNat {k : Nat} {r : Half} (h : r.toNat * 2 ^ k < 2 ^ 16) :
    (crcShift^[k] r).toNat = r.toNat * 2 ^ k := by
  induction k with
  | zero => simp
  | succ k ih =>
    rw [Nat.pow_succ, ← Nat.mul_assoc] at h ⊢
    have hk := ih (by omega)
    have hmsb : (crcShift^[k] r).msb = false := by
      rw [BitVec.msb_eq_false_iff_two_mul_lt, hk]
      omega
    rw [Function.iterate_succ_apply', crcShift, hmsb, if_neg Bool.false_ne_true, BitVec.toNat_shiftLeft, hk,
      Nat.shiftLeft_eq, Nat.pow_one, Nat.mod_eq_of_lt h]

/-- The bytes of the register itself bring it to 0, the more significant byte first. -/
theorem foldl_crcByte_bytesOfHalf (r : Half) : (bytesOfHalf r).foldl crcByte r = 0 := by
  have hhigh : r ^^^ (r.extractLsb' 8 8 ++ 0#8) = 0#8 ++ r.extractLsb' 0 8 := by
    conv => lhs; lhs; rw [← half_of_bytes r]
    rw [BitVec.xor_append, BitVec.xor_self, BitVec.xor_zero]
  have hlow : crcShift^[8] (0#8 ++ r.extractLsb' 0 8) = r.extractLsb' 0 8 ++ 0#8 := by
    have hvalue : (0#8 ++ r.extractLsb' 0 8).toNat = (r.extractLsb' 0 8).toNat := by
      rw [BitVec.toNat_append, BitVec.toNat_zero, Nat.zero_shiftLeft, Nat.zero_or]
    have hlt := (r.extractLsb' 0 8).isLt
    refine BitVec.eq_of_toNat_eq ?_
    rw [crcShift_iterate_toNat (by omega), hvalue, BitVec.toNat_append, Nat.shiftLeft_eq, BitVec.toNat_zero,
      Nat.or_zero]
  simp only [bytesOfHalf, List.foldl_cons, List.foldl_nil, crcByte]
  rw [hhigh, hlow, BitVec.xor_self]
  rfl

/-- Over bytes closed by their check the register runs to 0. -/
theorem crc_withCheck (bs : List Byte) : crc (withCheck bs) = 0 :=
  (List.foldl_append ..).trans (foldl_crcByte_bytesOfHalf (crc bs))

theorem length_withCheck (bs : List Byte) : (withCheck bs).length = bs.length + 2 := List.length_append ..

/-- The last two bytes of a list are those of the field that stands there. -/
theorem bytesOfHalf_halfAt {bs : List Byte} {n : Nat} (h : bs.length = n + 2) :
    bytesOfHalf (halfAt bs n) = bs.drop n := by
  obtain ⟨hi, lo, hdrop⟩ := List.length_eq_two.mp (show (bs.drop n).length = 2 by rw [List.length_drop]; omega)
  have hget : ∀ i, bs.getD (n + i) 0 = [hi, lo].getD i 0 := fun i => by
    rw [← hdrop, List.getD_eq_getElem?_getD, List.getD_eq_getElem?_getD, List.getElem?_drop]
  rw [halfAt, hget 1, show bs.getD n 0 = hi from hget 0, hdrop]
  exact congrArg₂ (fun a b => [a, b]) (BitVec.extractLsb'_append_eq_left ..) (BitVec.extractLsb'_append_eq_right ..)

/-- The bytes of a valid frame are closed by their check. -/
theorem withCheck_of_frameBytesValid {bs : List Byte} (h : frameBytesValid bs = true) :
    withCheck (bs.take (bs.length - 2)) = bs := by
  simp only [frameBytesValid, Bool.and_eq_true, decide_eq_true_eq, beq_iff_eq] at h
  obtain ⟨⟨⟨hmin, _⟩, _⟩, hcheck⟩ := h
  rw [Config.minFrameBytes] at hmin
  rw [withCheck, ← hcheck, bytesOfHalf_halfAt (by omega), List.take_append_drop]

theorem crc_eq_zero_of_frameBytesValid {bs : List Byte} (h : frameBytesValid bs = true) : crc bs = 0 := by
  rw [← withCheck_of_frameBytesValid h, crc_withCheck]

/-- Settles O5: valid frames run the register to 0, and two lists that differ in a single byte leave two registers. -/
theorem checkFindsOneWrongByte : Obligations.CheckFindsOneWrongByte := by
  intro bs i b hvalid hi hb
  refine Bool.eq_false_iff.mpr fun hset => crc_set_ne hi hb ?_
  rw [crc_eq_zero_of_frameBytesValid hset, crc_eq_zero_of_frameBytesValid hvalid]

/-! ## Messages (R151, R191) -/

/-- A 16-bit field of a number, most significant byte first. -/
theorem bytesOfHalf_ofNat (n : Nat) :
    bytesOfHalf (BitVec.ofNat 16 n) = [BitVec.ofNat 8 (n / 256), BitVec.ofNat 8 n] := by
  refine congrArg₂ (fun a b => [a, b]) (BitVec.eq_of_toNat_eq ?_) (BitVec.eq_of_toNat_eq ?_)
  · simp [Nat.shiftRight_eq_div_pow]
    omega
  · simp

/-- A status record: 5 bytes, 5 for each device and 7 for each port (12 section 12.3). -/
theorem length_statusRecord_bytes (r : StatusRecord) : r.bytes.length = 39 := by
  have hdevices : (r.devices.toList.flatMap DeviceStatus.bytes).length = 20 := by
    simp [List.length_flatMap, DeviceStatus.bytes]
  simp only [StatusRecord.bytes, List.length_append, hdevices]
  rfl

/-- The size of a message is the number of its bytes (R151). -/
theorem length_message_bytes (m : Message) : m.bytes.length = m.size := by
  rw [Message.bytes, length_withCheck]
  cases m with
  | notice n => rfl
  | response k t st d =>
    simp only [Message.body, Message.size, List.length_append, bytesOfHalf, List.length_cons, List.length_nil]
    omega

/-- Settles O6: every message is its body closed by its check, and its size is 7 bytes more than its data. -/
theorem messageBytesAndSizes : Obligations.MessageBytesAndSizes := by
  refine ⟨fun k t st d => ⟨?_, length_message_bytes _⟩, fun n => ⟨rfl, rfl⟩,
    fun m => ⟨length_message_bytes m, crc_withCheck _⟩, fun t w f r => ⟨rfl, rfl, ?_⟩⟩
  · rw [Message.bytes, Message.body, bytesOfHalf_ofNat]
    rfl
  · rw [length_message_bytes, Message.size, ResponseData.toBytes, length_statusRecord_bytes]

end Sys2Proof.Machine
end

section
/-! SUPPORT. Frames collected byte by byte past what a link holds, and frames that end invalid (R143, R147, R148,
R151 to R153). -/

namespace Sys2Proof.Machine

/-! ## Bytes taken in by a frame in progress (R143, R151) -/

/-- The frame after further bytes, of which it holds those within its first 266 (R143). -/
def Frame.after (f : Frame) (bs : List Byte) : Frame := { f with held := (f.held ++ bs).take 266 }

/-- The link after further bytes of the frame in progress: the stream byte of the last one's place stands on its data
line (R143, R151). -/
def Link.after (l : Link) (f : Frame) (bs : List Byte) : Link :=
  l.inFrame (min (l.count + bs.length) 267) (f.after bs)
    (if bs = [] then l.dout else some (f.stream.getD (min (l.count + bs.length - 1) 267) 0xFF))

@[simp] theorem Frame.after_stream (f : Frame) (bs : List Byte) : (f.after bs).stream = f.stream := rfl

theorem Frame.after_after (f : Frame) (bs bs' : List Byte) : (f.after bs).after bs' = f.after (bs ++ bs') := by
  simp [after, List.take_append, List.take_take, tsub_min, Nat.sub_sub]

namespace Link

variable {l : Link} {f : Frame}

theorem after_nil (h : l.tidy) (hf : l.select = .frame f) : l.after f [] = l := by
  obtain ⟨hcount, hheld⟩ := h
  have hcount' : min (l.count + ([] : List Byte).length) 267 = l.count := min_eq_left hcount
  have hfull : (f.held ++ []).take 266 = f.held := by
    rw [List.append_nil]
    exact List.take_of_length_le ((hheld f hf).trans_le (min_le_right ..))
  rw [after, Frame.after, hcount', hfull, if_pos rfl, inFrame, ← hf]

/-- One byte and then the others are all of them. -/
theorem after_cons (hcount : l.count ≤ 267) (b : Byte) (bs : List Byte) :
    (l.after f [b]).after (f.after [b]) bs = l.after f (b :: bs) := by
  cases bs with
  | nil => simp [after, inFrame, Frame.after_after]
  | cons b' bs =>
    have hsum : min (min (l.count + 1) 267 + (bs.length + 1)) 267 = min (l.count + (bs.length + 1 + 1)) 267 := by
      omega
    have hplace : min (min (l.count + 1) 267 + bs.length) 267 = min (l.count + (bs.length + 1)) 267 := by omega
    simp [after, inFrame, Frame.after_after, hsum, hplace]

/-- One byte taken in by a frame in progress (R143, R151). -/
theorem after_singleton (h : l.tidy) (hf : l.select = .frame f) (b : Byte) : l.after f [b]
    = { l with count := countByte l.count, select := .frame (f.take l.count b), dout := some (f.outByte l.count) } := by
  have hlen : f.held.length = min l.count 266 := h.2 f hf
  have hcount : l.count ≤ 267 := h.1
  have hplace : min (l.count + [b].length - 1) 267 = l.count := min_eq_left hcount
  have htake : f.after [b] = f.take l.count b := by
    unfold Frame.after Frame.take Config.heldBytes
    split
    · rw [List.take_of_length_le (by rw [List.length_append, List.length_singleton]; omega)]
    · rw [List.take_left' (by omega)]
  rw [after, hplace, htake, countByte_eq hcount, if_neg (List.cons_ne_nil b [])]
  rfl

theorem tidy_after_singleton (h : l.tidy) (hf : l.select = .frame f) (b : Byte) : (l.after f [b]).tidy := by
  rw [after_singleton h hf]
  exact tidy_take h hf b _

end Link

namespace State

variable {s : State} {p : Port} {f : Frame} {x : Fin 8}

/-- One byte of a frame in progress, however many came before. -/
theorem exec_inboundByte_frame (hp : s.power ≠ .off) (hsel : (s.link p).select = .frame f) (htidy : (s.link p).tidy)
    (b : Byte) : exec (.inboundByte p b) s = .next (s.setLink p ((s.link p).after f [b])) := by
  refine (s.powered_on _ hp).trans (congrArg _ ?_)
  rw [inboundByte, hsel, Link.after_singleton htidy hsel]

/-- Any bytes of a frame in progress, however many came before. -/
theorem runAll_inboundBytes_frame (hp : s.power ≠ .off) (hsel : (s.link p).select = .frame f)
    (htidy : (s.link p).tidy) (bs : List Byte) :
    runAll (bs.map (.inboundByte p)) s = .next (s.setLink p ((s.link p).after f bs)) := by
  induction bs generalizing s f with
  | nil =>
    rw [Link.after_nil htidy hsel]
    exact congrArg (fun l => Host.Outcome.next { s with links := l }) (PerPort.set_get ..).symm
  | cons b bs ih =>
    have hlink := s.link_setLink_self p ((s.link p).after f [b])
    have hrest := ih (s := s.setLink p ((s.link p).after f [b])) hp (congrArg Link.select hlink)
      (hlink.symm ▸ Link.tidy_after_singleton htidy hsel b)
    rw [List.map_cons, runAll_cons (exec_inboundByte_frame hp hsel htidy b), hrest, hlink, setLink_setLink,
      Link.after_cons htidy.1]

/-- A select period that is no frame holds nothing, and shifts out a free byte (R143, assumption 24). -/
theorem exec_inboundByte_ignored (hp : s.power ≠ .off) (hsel : (s.link p).select = .ignored) (b : Byte) :
    exec (.inboundByte p b) s
      = .next ((s.setLink p { s.link p with dout := some (Config.unframedByte s.freeCount) }).countFree 1) := by
  refine (s.powered_on _ hp).trans (congrArg _ ?_)
  unfold inboundByte
  dsimp only
  split
  · next hf => cases hsel.symm.trans hf
  · rfl
  · next hr => cases hsel.symm.trans hr

end State

/-- Settles O7: any bytes of a frame in progress are taken in one by one, from a tidy link to a tidy link. -/
theorem framesBeginAndCollect : Obligations.FramesBeginAndCollect := by
  refine ⟨fun p s hp hsel => ?_, fun p s f hp hsel htidy => ?_, fun p s b hp hsel =>
    State.exec_inboundByte_ignored hp hsel b⟩
  · refine (s.powered_on _ hp).trans (congrArg _ ?_)
    rw [State.frameBegin, hsel, State.newFrame]
    cases (s.out p).queue <;> rfl
  · refine ⟨fun b => ?_, State.runAll_inboundBytes_frame hp hsel htidy⟩
    have hplace : min ((s.link p).count + [b].length - 1) 267 = (s.link p).count := min_eq_left htidy.1
    rw [State.exec_inboundByte_frame hp hsel htidy, Link.after, hplace]
    rfl

/-! ## The end of an invalid frame (R144, R147, R148, R151 to R153) -/

/-- The conditions of R144 that a frame can miss. -/
theorem Frame.valid_eq_false {f : Frame} {n : Nat} {x : Fin 8}
    (h : x ≠ 0 ∨ 266 < n ∨ frameBytesValid f.held = false) : f.valid n x = false := by
  rw [Frame.valid, Config.heldBytes]
  obtain hpartial | hlong | hbytes := h
  · simp [hpartial]
  · simp [hlong]
  · simp [hbytes]

namespace State

variable {s : State} {p : Port} {f : Frame} {x : Fin 8}

/-- Removal looks at the byte count of the link and at nothing else of it (R152). -/
theorem removal_setLink {v : Link} (hv : v.count = (s.link p).count) :
    (s.setLink p v).removal p f = (s.removal p f).setLink p v := by
  unfold removal
  rw [link_setLink_self, hv]
  split <;> rfl

/-- Removal and the moving of notices, on a select that is released with any bits on its data line (R138, R152). -/
theorem frameClosed_setLink {v : Link} (hv : v.count = (s.link p).count) :
    ((s.setLink p v).removal p f).moveNotices p = (s.frameClosed p f).setLink p v := by
  rw [← frameClosed_eq, ← setLink_setLink (s := s) (p := p)
    { s.link p with select := .released, dout := none, doutBits := [] } v,
    removal_setLink (by rw [link_setLink_self, hv])]
  rfl

/-- An invalid frame leaves its receipt and one bad frame more, at most 65535 (R147, R148). -/
theorem badFrame_setLink (v : Link) (tag : Byte) : (s.setLink p v).badFrame p tag = s.setLink p { v with
      receipt := { tag := tag, code := .badFrame }
      badFrames := if v.badFrames.toNat = 65535 then v.badFrames else v.badFrames + 1 } := by
  rw [badFrame, writeReceipt, link_setLink_self, setLink_setLink, link_setLink_self, setLink_setLink, bumpHalf_eq]

/-- The end of an invalid frame: removal and notices, then the receipt BAD_FRAME (R147, R148, R153). -/
theorem exec_frameEnd_invalid (hp : s.power ≠ .off) (hsel : (s.link p).select = .frame f)
    (hinvalid : f.valid (s.link p).count x = false) : exec (.frameEnd p x) s
      = .next ((s.frameClosed p f).setLink p
        { receipt := { tag := frameTag f.held, code := .badFrame }
          badFrames := if (s.link p).badFrames.toNat = 65535 then (s.link p).badFrames else (s.link p).badFrames + 1
          count := (s.link p).count
          select := .released
          dout := none
          doutBits := leadingBits (f.outByte (s.link p).count) x }).driveAttention := by
  refine (s.powered_on _ hp).trans (congrArg _ ?_)
  rw [frameEnd, hsel]
  dsimp only [frameEndWork]
  rw [hinvalid, if_neg Bool.false_ne_true, frameClosed_setLink (by rfl), badFrame_setLink]

/-- A select period that is no frame ends with its release, its partial byte being a free byte's (R143, assumption
24). -/
theorem exec_frameEnd_ignored (hp : s.power ≠ .off) (hsel : (s.link p).select = .ignored) :
    exec (.frameEnd p x) s = .next ((s.setLink p { s.link p with
      select := .released
      dout := none
      doutBits := leadingBits (Config.unframedByte s.freeCount) x }).countFree (if x = 0 then 0 else 1)) := by
  refine (s.powered_on _ hp).trans (congrArg _ ?_)
  rw [frameEnd, hsel]

/-- The link as the closed frame leaves it is not seen once the link is replaced. -/
theorem frameClosed_setLink_eq (v : Link) : (s.frameClosed p f).setLink p v
    = { s.frameClosed p f with links := s.links.set p v } :=
  congrArg (fun l => { s.frameClosed p f with links := l }) (PerPort.set_set ..)

end State

/-- Settles O8: removal and notices do not look at what the link holds besides its count. -/
theorem invalidFrameEnds : Obligations.InvalidFrameEnds := by
  refine ⟨fun p x s f hp hsel hinvalid => ?_, fun p x s hp hsel => State.exec_frameEnd_ignored hp hsel⟩
  rw [State.exec_frameEnd_invalid hp hsel (Frame.valid_eq_false hinvalid), State.frameClosed_setLink_eq]
  rfl

end Sys2Proof.Machine
end

section
/-! SUPPORT. The beginnings of the two reset sequences, block by block (R155, R178, R183). -/

namespace Sys2Proof.Machine

/-- A tracker taken over by a warm reset sequence, state by state (R178). -/
theorem Tracker.warm_by_state (t : Tracker) : t.warm = match t.state with
    | .offline => { Tracker.cold with state := .offline }
    | .idle => { Tracker.cold with state := .idle }
    | _ => { Tracker.cold with state := .recovering, wantReset := true } := by
  unfold Tracker.warm
  cases t.state <;> rfl

/-- A receipt is no part of what turns a frame to fill (R155). -/
theorem Link.toFill_receipt (l : Link) (r : Receipt) :
    ({ l with receipt := r } : Link).toFill = { l.toFill with receipt := r } := by
  obtain ⟨f, hf, e⟩ | ⟨hn, e⟩ := l.toFill_cases
  · rw [e, Link.toFill, hf]
  · obtain ⟨f, hf, _⟩ | ⟨_, e'⟩ := ({ l with receipt := r } : Link).toFill_cases
    · exact absurd hf (hn f)
    · rw [e, e']

namespace State

variable {s : State}

/-- WARM_RESET of the manager with the current epoch is accepted and begins the sequence (R177). -/
theorem exec_warmReset_begins {tag : Byte} (ha : s.Accepts s.manager tag) : exec (.warmReset s.manager tag s.epoch) s
    = .next ((s.accept s.manager).warmBegin.writeReceipt s.manager tag .accepted) := by
  refine (powered_intake ha.on ha.verdict_control).trans ?_
  rw [warmResetDo, accept_manager, accept_epoch, if_neg (not_not_intro rfl), if_neg (not_not_intro rfl)]

/-- The pin is asserted after cold start, and begins its sequence where it was not asserted before (R183,
assumption 2). -/
theorem exec_resetPinAssert_on (hp : s.power = .on) :
    exec .resetPinAssert s = .next (if s.resetPin then s else s.pinBegin) := by
  refine congrArg Host.Outcome.next ?_
  rw [hp]

/-- The receipt of the request that begins a warm reset sequence may be written before the sequence begins (R153,
R178). -/
theorem warmBegin_writeReceipt (p : Port) (tag : Byte) (c : ReceiptCode) :
    s.warmBegin.writeReceipt p tag c = (s.receipted p tag c).warmBegin := by
  have hlink := Link.toFill_receipt (s.link p) { tag := tag, code := c }
  cases p with
  | A => exact congrArg (fun l => { s.warmBegin with links := { a := l, b := s.links.b.toFill } }) hlink.symm
  | B => exact congrArg (fun l => { s.warmBegin with links := { a := s.links.a.toFill, b := l } }) hlink.symm

end State

/-- Settles O30: both beginnings are the discard with the trackers of their sequence, state by state. -/
theorem resetSequencesBegin : Obligations.ResetSequencesBegin := by
  refine ⟨fun s tag ha => ?_, fun l => ?_, fun s hp hpin => ?_, fun s hp hpin => ?_, fun s hp => ?_⟩
  · rw [State.exec_warmReset_begins ha, State.warmBegin_writeReceipt]
    exact congrArg (fun f => Host.Outcome.next
      { ((s.accept s.manager).receipted s.manager tag .accepted).discard with trackers := s.trackers.map f })
      (funext Tracker.warm_by_state)
  · obtain ⟨f, hf, e⟩ | ⟨hn, e⟩ := l.toFill_cases
    · exact ⟨fun g hg => by cases hf.symm.trans hg; exact e, fun h => absurd hf (h f)⟩
    · exact ⟨fun g hg => absurd hg (hn g), fun _ => e⟩
  · rw [State.exec_resetPinAssert_on hp, if_neg (by rw [hpin]; decide)]
    rfl
  · rw [State.exec_resetPinAssert_on hp, if_pos hpin]
  · refine congrArg Host.Outcome.next ?_
    rw [hp]

end Sys2Proof.Machine
end

section
/-! SUPPORT. Requests of a port that is not the manager, FREEZE, HANDOVER, and the end of a reset sequence (R158, R160,
R162, R182). -/

namespace Sys2Proof.Machine

theorem other_ne_self (p : Port) : p.other ≠ p := by cases p <;> decide

/-- With its queue, reservations and pending notices empty, an outbound unit comes to hold RESET_DONE alone (R182). -/
theorem Outbound.announced {o : Outbound} (hq : o.queue = []) (hr : o.reservations = 0) (hn : o.notices = .empty)
    (e : Half) : ((o.raise (.resetDone e)).moveNotices).driveAttention .operating
      = { queue := [.notice (.resetDone e)], reservations := 0, notices := .empty, attention := true } := by
  obtain ⟨queue, reservations, notices, attention⟩ := o
  subst hq hr hn
  have hmove : (Outbound.raise ⟨[], 0, .empty, attention⟩ (.resetDone e)).moveOne
      = ⟨[.notice (.resetDone e)], 0, .empty, attention⟩ := rfl
  have hquiet : (⟨[.notice (.resetDone e)], 0, .empty, attention⟩ : Outbound).moveOne
      = ⟨[.notice (.resetDone e)], 0, .empty, attention⟩ := moveOne_of_quiet _ (.inl rfl)
  simp only [moveNotices, Function.iterate_succ, Function.iterate_zero, Function.comp, id, hmove, hquiet]
  rfl

namespace State

variable {s : State} {p : Port} {tag : Byte}

/-! ## Only the manager (R158) -/

theorem windowWriteCheck_notManager (hp : p ≠ s.manager) (n : Word) (r : WindowRecord) :
    s.windowWriteCheck p n r = .inl .notManager := if_pos hp

theorem profileWriteCheck_notManager (hp : p ≠ s.manager) (n : Word) (r : ProfileRecord) :
    s.profileWriteCheck p n r = .inl .notManager := if_pos hp

theorem swapCheck_notManager (hp : p ≠ s.manager) (n : Word) : s.swapCheck p n = .inl .notManager := if_pos hp

/-! ## FREEZE and HANDOVER (R160, R162) -/

/-- Pending swaps on swap-open windows alone do not stand in the way of FREEZE (R162). -/
theorem not_swapBlocksFreeze (h : ∀ w, (s.window w).swapPending = true → (s.window w).swapOpen = true) :
    ¬ s.swapBlocksFreeze = true := by
  rw [swapBlocksFreeze, Vector.any_eq_true]
  rintro ⟨i, hi, hw⟩
  simp only [Bool.and_eq_true, Bool.not_eq_true'] at hw
  obtain ⟨hpending, hclosed⟩ := hw
  exact absurd (hclosed.symm.trans (h ⟨i, hi⟩ hpending)) nofun

/-- FREEZE that nothing blocks sets frozen and is answered (R162). -/
theorem exec_freeze (h : AttentionLaw s) (ha : s.Accepts s.manager tag)
    (hw : ∀ w, (s.window w).swapPending = true → (s.window w).swapOpen = true) :
    exec (.freeze s.manager tag) s
      = .next (State.answered { s with frozen := true } s.manager tag (.response .freeze tag .done .absent)) := by
  have hblocks : ¬ (s.accept s.manager).swapBlocksFreeze = true := not_swapBlocksFreeze hw
  refine (powered_intake ha.on ha.verdict_control).trans ?_
  rw [freezeDo, accept_manager, if_neg (not_not.mpr rfl), if_neg hblocks]
  exact congrArg _ (reply_accepted (s := { s with frozen := true }) h ha.operating ..)

/-- An answer and a notice on each port, brought to the close of their event: the order of the ports and the attention
lines until then are no part of what it leaves. -/
theorem answered_raises_close (m : Message) (n : Notice) :
    (((s.answered p tag m).raise .A n).raise .B n).close = (((s.responded p tag m).raise p n).raise p.other n).close :=
  close_of_attention (s := ((s.responded p tag m).raise p n).raise p.other n) fun q => by
    cases p <;> cases q <;> exact ⟨_, rfl⟩

/-- HANDOVER of the manager, not frozen (R160). -/
theorem exec_handover (ha : s.Accepts s.manager tag) (hf : s.frozen = false) :
    exec (.handover s.manager tag) s
      = .next ((((State.answered { s with manager := s.manager.other } s.manager tag
          (.response .handover tag .done .absent)).raise .A (.managerChanged s.manager.other)).raise .B
            (.managerChanged s.manager.other)).close) := by
  refine (powered_intake ha.on ha.verdict_control).trans (congrArg _ ?_)
  rw [handoverDo, accept_manager, accept_frozen, if_neg (not_not.mpr rfl), if_neg (by rw [hf]; decide),
    close_writeReceipt, answered_raises_close]
  have hrespond := accept_respond (s := { s with manager := s.manager.other }) s.manager
    (plainResponse .handover tag .done)
  exact congrArg (fun u : State => ((((u.raise s.manager (.managerChanged s.manager.other)).raise s.manager.other
    (.managerChanged s.manager.other)).writeReceipt s.manager tag .accepted)).close) hrespond

/-! ## The end of a reset sequence (R182) -/

/-- When a reset sequence may end (R182). -/
theorem sequenceMayEnd_iff : s.sequenceMayEnd = true ↔ s.power = .on ∧ s.part = .resetting ∧ s.clearStep = true
    ∧ s.job = none ∧ ∀ d, (s.tracker d).state ≠ .recovering := by
  have hall : (s.trackers.all fun t => t.state != .recovering) = true ↔ ∀ d, (s.tracker d).state ≠ .recovering := by
    simp only [Vector.all_eq_true, bne_iff_ne]
    exact ⟨fun h d => h d.val d.isLt, fun h i hi => h ⟨i, hi⟩⟩
  rw [sequenceMayEnd, Bool.and_eq_true, hall]
  simp only [Bool.and_eq_true, beq_iff_eq, Option.isNone_iff_eq_none, and_assoc]

/-- Each outbound unit once the part has come into operation (R182, R185). -/
theorem announce_out (e : Half) (p : Port) :
    (s.announce e).out p = ((s.out p).raise (.resetDone e)).moveNotices.driveAttention .operating := by
  cases p <;> rfl

/-- The part comes into operation with nothing else on its outbound units (R182). -/
theorem announce_eq (h : ∀ p, (s.out p).queue = [] ∧ (s.out p).reservations = 0 ∧ (s.out p).notices = .empty)
    {done : Outbound} (e : Half)
    (hd : done = { queue := [.notice (.resetDone e)], reservations := 0, notices := .empty, attention := true }) :
    s.announce e = { s with part := .operating, outbound := { a := done, b := done } } := by
  have hout : (s.announce e).outbound = { a := done, b := done } :=
    outbound_ext (s := { s with outbound := { a := done, b := done } }) fun p => by
      obtain ⟨hq, hr, hn⟩ := h p
      rw [announce_out, Outbound.announced hq hr hn, ← hd]
      cases p <;> rfl
  rw [← hout]
  rfl

end State

/-- Settles O20: the check of authority is the first of every request of the table of R158. -/
theorem othersAreNotManager : Obligations.OthersAreNotManager := by
  intro s p tag h ha hp
  have hp' : p ≠ (s.accept p).manager := hp
  refine ⟨fun n r => State.exec_replied h ha ?_, fun n r => State.exec_replied h ha ?_,
    fun n => State.exec_replied h ha ?_, State.exec_replied h ha (if_pos hp'), State.exec_replied h ha (if_pos hp'),
    State.exec_replied h ha (if_pos ⟨rfl, hp'⟩), fun e => State.exec_replied h ha (if_pos hp'),
    fun u => State.exec_replied h ha (if_pos ⟨other_ne_self p, hp'⟩)⟩
  · rw [State.windowWriteDo, State.windowWriteCheck_notManager hp']
  · rw [State.profileWriteDo, State.profileWriteCheck_notManager hp']
  · rw [State.swapDo, State.swapCheck_notManager hp']

/-- Settles O25: past their checks, FREEZE sets the flag and HANDOVER changes the manager before its answer. -/
theorem freezeAndHandover : Obligations.FreezeAndHandover :=
  ⟨fun _ _ h ha hw => State.exec_freeze h ha hw, fun _ _ ha hf => State.exec_handover ha hf⟩

/-- Settles O32: the condition of the end decides, and the announcement meets empty outbound units. -/
theorem sequenceEndAnnounces : Obligations.SequenceEndAnnounces := by
  intro s hpower hpart
  refine ⟨fun hclear hjob htrackers hout => ?_, fun h => congrArg _ (if_neg fun he => ?_)⟩
  · have he : s.sequenceMayEnd = true := State.sequenceMayEnd_iff.mpr ⟨hpower, hpart, hclear, hjob, htrackers⟩
    refine congrArg _ ((if_pos he).trans ?_)
    exact State.announce_eq (s := { s with epoch := s.epoch + 1 }) hout _ rfl
  · obtain ⟨_, _, hclear, hjob, htrackers⟩ := State.sequenceMayEnd_iff.mp he
    obtain hn | hn | ⟨d, hd⟩ := h
    · exact absurd (hn.symm.trans hclear) nofun
    · exact hn hjob
    · exact htrackers d hd

end Sys2Proof.Machine
end

section
/-! SUPPORT. Who configures the part: what each command does to the manager port, the frozen flag, the profile table
and the configuration of the windows (R158, R163). -/

namespace Sys2Proof.Machine

/-- Manager port, frozen flag, profile table and what WINDOW_WRITE writes of every window stay as they were. -/
structure State.SameSetup (s t : State) : Prop where
  manager : t.manager = s.manager
  frozen : t.frozen = s.frozen
  profiles : t.profiles = s.profiles
  windows : ∀ w, sameConfig (s.window w) (t.window w)

/-- The port may configure the part: the part is OPERATING and not frozen, and the port is its manager (R158, R163). -/
structure State.ConfigurableBy (s : State) (p : Port) : Prop where
  operating : s.part = .operating
  manager : p = s.manager
  unfrozen : s.frozen = false

/-- The requests that can change the configuration (R22, R36, R160, R162). -/
def FrameRequest.configures : FrameRequest → Bool
  | .windowWrite .. | .profileWrite .. | .freeze | .handover => true
  | _ => false

/-- The commands by which a port can change the configuration: its own configuring requests, and the end of a frame on
its link. -/
inductive ConfiguresFrom (p : Port) : Instr → Prop where
  | windowWrite (tag : Byte) (n : Word) (r : WindowRecord) : ConfiguresFrom p (.windowWrite p tag n r)
  | profileWrite (tag : Byte) (n : Word) (r : ProfileRecord) : ConfiguresFrom p (.profileWrite p tag n r)
  | freeze (tag : Byte) : ConfiguresFrom p (.freeze p tag)
  | handover (tag : Byte) : ConfiguresFrom p (.handover p tag)
  | frameEnd (x : Fin 8) : ConfiguresFrom p (.frameEnd p x)

/-- The command of a configuring request. -/
theorem configuresFrom_of_handed {c : Instr} {p : Port} {tag : Byte} {q : FrameRequest}
    (h : handed c = some (p, tag, q)) (hq : q.configures = true) : ConfiguresFrom p c := by
  cases c with
  | windowWrite => cases h; exact .windowWrite ..
  | profileWrite => cases h; exact .profileWrite ..
  | freeze => cases h; exact .freeze ..
  | handover => cases h; exact .handover ..
  | null | read | program | erase | windowRead | profileRead | swap | statusRead | abort | warmReset =>
    cases h
    cases hq
  | _ => cases h

namespace State

variable {s t u : State} {p : Port} {tag : Byte}

/-- Nothing of the configuration is touched. -/
theorem SameSetup.of_eq (hm : t.manager = s.manager) (hf : t.frozen = s.frozen) (hp : t.profiles = s.profiles)
    (hw : t.windows = s.windows) : s.SameSetup t :=
  ⟨hm, hf, hp, fun w => by rw [window, window, hw]; exact .refl _⟩

theorem SameSetup.refl (s : State) : s.SameSetup s := .of_eq rfl rfl rfl rfl

theorem SameSetup.trans (h : s.SameSetup t) (h' : t.SameSetup u) : s.SameSetup u :=
  ⟨h'.manager.trans h.manager, h'.frozen.trans h.frozen, h'.profiles.trans h.profiles,
    fun w => (h.windows w).trans (h'.windows w)⟩

/-- The configuration is not touched before the change. -/
theorem SameSetup.before (h : t.SameSetup u) (hm : t.manager = s.manager) (hf : t.frozen = s.frozen)
    (hp : t.profiles = s.profiles) (hw : t.windows = s.windows) : s.SameSetup u := (of_eq hm hf hp hw).trans h

/-- The configuration is not touched after the change. -/
theorem SameSetup.after (h : s.SameSetup t) (hm : u.manager = t.manager) (hf : u.frozen = t.frozen)
    (hp : u.profiles = t.profiles) (hw : u.windows = t.windows) : s.SameSetup u := h.trans (of_eq hm hf hp hw)

theorem SameSetup.close (h : s.SameSetup t) : s.SameSetup t.close :=
  h.after t.close_manager t.close_frozen t.close_profiles t.close_windows

theorem SameSetup.setTracker (h : s.SameSetup t) (d : Device) (v : Tracker) : s.SameSetup (t.setTracker d v) :=
  h.after rfl rfl rfl rfl

theorem SameSetup.raise (h : s.SameSetup t) (p : Port) (n : Notice) : s.SameSetup (t.raise p n) :=
  h.after rfl rfl rfl rfl

theorem SameSetup.respond (h : s.SameSetup t) (p : Port) (m : Message) : s.SameSetup (t.respond p m) :=
  h.after rfl rfl rfl rfl

theorem SameSetup.reply (p : Port) (k : RequestKind) (tag : Byte) (st : Status) (data : ResponseData) :
    s.SameSetup (s.reply p k tag st data) := .of_eq rfl rfl rfl rfl

theorem SameSetup.setQueue (p : Port) (l : List Request) : s.SameSetup (s.setQueue p l) := .of_eq rfl rfl rfl rfl

/-- A window replaced by one of the same configuration. -/
theorem SameSetup.setWindow {n : WindowNo} {v : Window} (h : sameConfig (s.window n) v) :
    s.SameSetup (s.setWindow n v) :=
  ⟨rfl, rfl, rfl, fun w => by
    rw [window_setWindow]
    split
    · next e => rw [e]; exact h
    · exact .refl _⟩

/-! ## Answers and discards -/

theorem SameSetup.answer (p : Port) (m : Message) (w : WindowNo) (d : Device) : s.SameSetup (s.answer p m w d) := by
  have hframe := s.answer_frame p m w d
  exact ⟨by rw [hframe], by rw [hframe], by rw [hframe], fun v => ((lowers_answer ..).windows v).config⟩

theorem SameSetup.answerAll (d : Device) (l : List OpRecord) : s.SameSetup (s.answerAll d l) := by
  induction l generalizing s with
  | nil => exact .refl s
  | cons rec l ih => exact (SameSetup.answer ..).trans ih

theorem SameSetup.answerFaults (l : List Request) : s.SameSetup (s.answerFaults l) := by
  induction l generalizing s with
  | nil => exact .refl s
  | cons r l ih => exact (SameSetup.answer ..).trans ih

theorem SameSetup.discard : s.SameSetup s.discard := ⟨rfl, rfl, rfl, fun w => (lowers_discard.windows w).config⟩

theorem SameSetup.drain (d : Device) (p : Port) : s.SameSetup (s.drain d p) := by
  unfold State.drain
  exact SameSetup.trans (.setQueue ..) (.answerFaults _)

theorem SameSetup.quarantine (d : Device) : s.SameSetup (s.quarantine d) := by
  unfold State.quarantine
  have hsettled := (SameSetup.refl s).setTracker d ((s.tracker d).settled .faulted)
  exact (((hsettled.trans (.drain d .A)).trans (.drain d .B)).raise ..).close

theorem SameSetup.resetDone (d : Device) : s.SameSetup (s.resetDone d) := by
  unfold State.resetDone
  exact (SameSetup.answerAll d _).setTracker ..

theorem SameSetup.pollResult (d : Device) (b : Byte) : s.SameSetup (s.pollResult d b) := by
  unfold State.pollResult
  dsimp only
  split
  · exact .refl s
  · exact .of_eq rfl rfl rfl rfl
  · exact .of_eq rfl rfl rfl rfl
  · refine SameSetup.setTracker ?_ ..
    unfold answerTop
    split
    · exact .answer ..
    · exact .refl s

/-! ## Requests that do not configure -/

theorem SameSetup.refuse (p : Port) (tag : Byte) (k : RequestKind) (st : Status) (w : Option WindowNo) :
    s.SameSetup (s.refuse p tag k st w) := by
  unfold State.refuse raiseDenialNotice
  dsimp only
  split
  · split <;> exact .of_eq rfl rfl rfl rfl
  · exact .of_eq rfl rfl rfl rfl

theorem SameSetup.enqueue (r : Request) : s.SameSetup (s.enqueue r) :=
  ⟨rfl, rfl, rfl, fun w => by
    rw [enqueue_window]
    split
    · next e => rw [e]; exact .refl (s.window r.window)
    · exact .refl _⟩

theorem SameSetup.memoryRequest (p : Port) (tag : Byte) (a : Word) (ask : Ask) :
    s.SameSetup (s.memoryRequest p tag a ask) := by
  unfold State.memoryRequest
  split
  · exact (SameSetup.refuse ..).close
  · exact (SameSetup.enqueue _).close

theorem SameSetup.windowReadDo (p : Port) (tag : Byte) (n : Word) : s.SameSetup (s.windowReadDo p tag n) := by
  unfold State.windowReadDo
  split
  · exact .reply ..
  · split <;> exact .reply ..

theorem SameSetup.profileReadDo (p : Port) (tag : Byte) (n : Word) : s.SameSetup (s.profileReadDo p tag n) := by
  unfold State.profileReadDo
  split <;> exact .reply ..

/-- SWAP changes the active bank or marks a pending swap, and no configuration (R24, R25). -/
theorem SameSetup.swapDo (p : Port) (tag : Byte) (n : Word) : s.SameSetup (s.swapDo p tag n) := by
  unfold State.swapDo
  split
  · exact .reply ..
  · dsimp only
    split
    all_goals
      refine SameSetup.trans (.setWindow ?_) (.reply ..)
      exact .refl (s.window _)

theorem SameSetup.statusReadDo (p : Port) (tag : Byte) (c : Bool) : s.SameSetup (s.statusReadDo p tag c) := by
  unfold State.statusReadDo
  split
  · exact .reply ..
  · cases c <;> exact .of_eq rfl rfl rfl rfl

theorem SameSetup.abortTarget (p : Port) (tag : Byte) (target : Target) :
    s.SameSetup (s.abortTarget p tag target) := by
  cases target with
  | notFound => exact .refl s
  | waiting r => exact SameSetup.trans (.setQueue ..) (.answer ..)
  | inJob r => exact .of_eq rfl rfl rfl rfl
  | record d => exact .of_eq rfl rfl rfl rfl

theorem SameSetup.abortDo (p : Port) (tag : Byte) (q : Port) (x : Byte) : s.SameSetup (s.abortDo p tag q x) := by
  unfold State.abortDo
  split
  · exact .reply ..
  split
  · exact .reply ..
  · exact ((SameSetup.abortTarget q x _).respond ..).close

theorem SameSetup.warmResetDo (p : Port) (tag : Byte) (e : Half) : s.SameSetup (s.warmResetDo p tag e) := by
  unfold State.warmResetDo
  split
  · exact .reply ..
  · split
    · exact .reply ..
    · exact SameSetup.discard.after rfl rfl rfl rfl

/-! ## The configuring requests: without authority, or frozen, they change nothing (R158, R163) -/

/-- PROFILE_WRITE passes the checks of authority and freeze (R35). -/
theorem profileWriteCheck_allowed {n : Word} {r : ProfileRecord} {d : Device}
    (h : s.profileWriteCheck p n r = .inr d) : p = s.manager ∧ s.frozen = false := by
  unfold profileWriteCheck at h
  split at h
  · cases h
  · next hp =>
    split at h
    · cases h
    · next hf => exact ⟨not_not.mp hp, Bool.eq_false_iff.mpr hf⟩

theorem windowWriteDo_setup (p : Port) (tag : Byte) (n : Word) (r : WindowRecord) :
    s.SameSetup (s.windowWriteDo p tag n r) ∨ p = s.manager ∧ s.frozen = false := by
  unfold windowWriteDo
  split
  · exact .inl (.reply ..)
  · next hc =>
    obtain ⟨hp, hf, _⟩ := windowWriteCheck_inr hc
    exact .inr ⟨hp, hf⟩

theorem profileWriteDo_setup (p : Port) (tag : Byte) (n : Word) (r : ProfileRecord) :
    s.SameSetup (s.profileWriteDo p tag n r) ∨ p = s.manager ∧ s.frozen = false := by
  unfold profileWriteDo
  split
  · exact .inl (.reply ..)
  · next hc => exact .inr (profileWriteCheck_allowed hc)

theorem freezeDo_setup (p : Port) (tag : Byte) :
    s.SameSetup (s.freezeDo p tag) ∨ p = s.manager ∧ s.frozen = false := by
  unfold freezeDo
  split
  · exact .inl (.reply ..)
  · next hp =>
    split
    · exact .inl (.reply ..)
    · cases hf : s.frozen with
      | true => exact .inl (.of_eq rfl hf.symm rfl rfl)
      | false => exact .inr ⟨not_not.mp hp, rfl⟩

theorem handoverDo_setup (p : Port) (tag : Byte) :
    s.SameSetup (s.handoverDo p tag) ∨ p = s.manager ∧ s.frozen = false := by
  unfold handoverDo
  split
  · exact .inl (.reply ..)
  · next hp =>
    split
    · exact .inl (.reply ..)
    · next hf => exact .inr ⟨not_not.mp hp, Bool.eq_false_iff.mpr hf⟩

/-- What an accepted request does to the configuration. -/
theorem carryOut_setup (p : Port) (tag : Byte) (q : FrameRequest) : s.SameSetup (q.carryOut p tag s)
    ∨ (p = s.manager ∧ s.frozen = false) ∧ q.configures = true := by
  cases q with
  | null | unknown => exact .inl (.refl s)
  | read | program | erase => exact .inl (.memoryRequest ..)
  | windowRead => exact .inl (.windowReadDo ..)
  | profileRead => exact .inl (.profileReadDo ..)
  | swap => exact .inl (.swapDo ..)
  | statusRead => exact .inl (.statusReadDo ..)
  | abort => exact .inl (.abortDo ..)
  | warmReset => exact .inl (.warmResetDo ..)
  | windowWrite => exact (windowWriteDo_setup ..).imp_right fun h => ⟨h, rfl⟩
  | profileWrite => exact (profileWriteDo_setup ..).imp_right fun h => ⟨h, rfl⟩
  | freeze => exact (freezeDo_setup ..).imp_right fun h => ⟨h, rfl⟩
  | handover => exact (handoverDo_setup ..).imp_right fun h => ⟨h, rfl⟩

/-- A request that intake refuses configures nothing, and an accepted one finds the part OPERATING (R113, R114). -/
theorem handRequest_setup (p : Port) (tag : Byte) (q : FrameRequest) : s.SameSetup (s.handRequest p tag q)
    ∨ s.ConfigurableBy p ∧ q.configures = true := by
  rw [handRequest_eq]
  obtain ⟨_, e⟩ | ⟨hv, e⟩ := s.intake_cases p tag q.group (q.carryOut p tag)
  · rw [e]
    exact .inl (.of_eq rfl rfl rfl rfl)
  · obtain ⟨hpart, _⟩ := (s.accepted_iff p tag q.group).mp hv
    rw [e]
    refine (carryOut_setup (s := s.accept p) p tag q).imp (fun h => ?_) fun ⟨⟨hp, hf⟩, hq⟩ => ⟨⟨hpart, hp, hf⟩, hq⟩
    have haccepted : s.SameSetup (q.carryOut p tag (s.accept p)) := h.before rfl rfl rfl rfl
    exact haccepted.after rfl rfl rfl rfl

end State
end Sys2Proof.Machine
end

section
/-! SUPPORT. Every command's change of the configuration, and the laws of frozen and of the manager's authority. -/

namespace Sys2Proof.Machine

/-- What a command can do to the configuration: leave it, or be a configuring command of a port that may configure. -/
def State.SetupChange (s t : State) (c : Instr) : Prop :=
  s.SameSetup t ∨ ∃ p, s.ConfigurableBy p ∧ ConfiguresFrom p c

namespace State

variable {s t u : State} {c : Instr}

/-! ## Frames and the bus -/

/-- Removal and the moving of notices, on a link that is written, touch links and outbound units only (R153). -/
theorem removal_moveNotices_frame (p : Port) (l : Link) (f : Frame) :
    ∃ links outbound, ((s.setLink p l).removal p f).moveNotices p
      = { s with links := links, outbound := outbound } := by
  unfold removal
  split <;> exact ⟨_, _, rfl⟩

theorem frameEnd_setup (p : Port) (x : Fin 8) : s.SameSetup (s.frameEnd p x) ∨ s.ConfigurableBy p := by
  unfold frameEnd
  split
  · exact .inl (.refl s)
  · exact .inl (.of_eq rfl rfl rfl rfl)
  · next f _ =>
    unfold frameEndWork
    dsimp only
    obtain ⟨links, outbound, e⟩ := s.removal_moveNotices_frame p _ f
    rw [e]
    split
    · obtain h | ⟨h, _⟩ := handRequest_setup (s := { s with links := links, outbound := outbound }) p
        (frameTag f.held) (frameRequest f.held)
      · exact .inl ((SameSetup.before h rfl rfl rfl rfl : s.SameSetup _).after rfl rfl rfl rfl)
      · exact .inr ⟨h.operating, h.manager, h.unfrozen⟩
    · exact .inl (.of_eq rfl rfl rfl rfl)

theorem SameSetup.frameBegin (p : Port) : s.SameSetup (s.frameBegin p) := by
  unfold State.frameBegin
  split <;> exact .of_eq rfl rfl rfl rfl

theorem SameSetup.inboundByte (p : Port) (b : Byte) : s.SameSetup (s.inboundByte p b) := by
  unfold State.inboundByte
  dsimp only
  split <;> exact .of_eq rfl rfl rfl rfl

theorem SameSetup.busGrant : s.SameSetup s.busGrant := by
  unfold State.busGrant
  split
  · next k _ _ => cases k <;> exact .of_eq rfl rfl rfl rfl
  · exact .refl s

theorem SameSetup.readJobComplete (l : List Byte) : s.SameSetup (s.readJobComplete l) := by
  unfold State.readJobComplete
  split
  · split
    · dsimp only
      split
      · exact .of_eq rfl rfl rfl rfl
      · exact SameSetup.close (.before (.answer ..) rfl rfl rfl rfl)
    · exact .refl s
  · exact .refl s

theorem SameSetup.startJobComplete : s.SameSetup s.startJobComplete := by
  unfold State.startJobComplete
  split
  · split
    · exact .refl s
    · dsimp only
      split <;> exact .of_eq rfl rfl rfl rfl
  · exact .refl s

theorem SameSetup.pollComplete (b : Option Byte) : s.SameSetup (s.pollComplete b) := by
  unfold State.pollComplete
  split
  · dsimp only
    split
    · exact .of_eq rfl rfl rfl rfl
    · exact SameSetup.close (.before (.pollResult ..) rfl rfl rfl rfl)
  · exact .refl s

theorem SameSetup.suspendComplete : s.SameSetup s.suspendComplete := by
  unfold State.suspendComplete
  split
  · dsimp only
    split <;> exact .of_eq rfl rfl rfl rfl
  · exact .refl s

theorem SameSetup.resumeComplete : s.SameSetup s.resumeComplete := by
  unfold State.resumeComplete
  split
  · dsimp only
    split <;> exact .of_eq rfl rfl rfl rfl
  · exact .refl s

theorem SameSetup.resetJobComplete : s.SameSetup s.resetJobComplete := by
  unfold State.resetJobComplete
  split
  · dsimp only
    split
    · exact .of_eq rfl rfl rfl rfl
    · exact SameSetup.close (.before (.resetDone _) rfl rfl rfl rfl)
  · exact .refl s

/-! ## Every command -/

theorem SetupChange.next (hu : s.SameSetup u) (he : (.next u : Host.Outcome State Fault Refusal) = .next t) :
    s.SetupChange t c := by
  cases he
  exact .inl hu

theorem SetupChange.powered (hu : s.SetupChange u c) (he : s.powered u = .next t) : s.SetupChange t c := by
  obtain rfl | rfl := powered_next he
  · exact .inl (.refl _)
  · exact hu

theorem SetupChange.request {p : Port} {tag : Byte} {q : FrameRequest} (hc : handed c = some (p, tag, q))
    (he : exec c s = .next t) : s.SetupChange t c := by
  rw [exec_handed hc] at he
  refine SetupChange.powered ?_ he
  exact (handRequest_setup p tag q).imp_right fun ⟨hp, hq⟩ => ⟨p, hp, configuresFrom_of_handed hc hq⟩

/-- What every command other than power does to the configuration (R158, R163). -/
theorem SetupChange.exec (hc : c.isPower = false) (he : exec c s = .next t) : s.SetupChange t c := by
  cases c with
  | coldStart | powerOff => cases hc
  | null | read | program | erase | windowWrite | windowRead | profileWrite | profileRead | swap | freeze | handover
  | statusRead | abort | warmReset => exact .request rfl he
  | frameEnd p x =>
    exact SetupChange.powered ((frameEnd_setup p x).imp_right fun h => ⟨p, h, .frameEnd x⟩) he
  | coldStartEnd | clearStep | resetSequenceEnd =>
    refine SetupChange.next ?_ he
    split <;> exact .of_eq rfl rfl rfl rfl
  | resetPinAssert =>
    refine SetupChange.next ?_ he
    split
    · exact .refl s
    · exact .of_eq rfl rfl rfl rfl
    · split
      · exact .refl s
      · exact SameSetup.discard.after rfl rfl rfl rfl
  | resetPinRelease =>
    refine SetupChange.next ?_ he
    split
    · split <;> exact .of_eq rfl rfl rfl rfl
    · exact .refl s
  | busGrant => exact SetupChange.powered (.inl .busGrant) he
  | frameBegin p => exact SetupChange.powered (.inl (.frameBegin p)) he
  | inboundByte p b => exact SetupChange.powered (.inl (.inboundByte p b)) he
  | readJobComplete l => exact SetupChange.powered (.inl (.readJobComplete l)) he
  | startJobComplete => exact SetupChange.powered (.inl .startJobComplete) he
  | pollComplete b => exact SetupChange.powered (.inl (.pollComplete b)) he
  | suspendComplete => exact SetupChange.powered (.inl .suspendComplete) he
  | resumeComplete => exact SetupChange.powered (.inl .resumeComplete) he
  | resetJobComplete => exact SetupChange.powered (.inl .resetJobComplete) he
  | timeBaseTick => exact SetupChange.powered (u := s.tick) (.inl (.of_eq rfl rfl rfl rfl)) he
  | clkPeriod | pollTimerExpiry | deadlineExpiry | suspendSettleExpiry =>
    refine SetupChange.powered (.inl ?_) he
    split <;> exact .of_eq rfl rfl rfl rfl
  | resetSettleExpiry d =>
    refine SetupChange.powered (.inl ?_) he
    split
    · split
      · exact .quarantine d
      · exact .of_eq rfl rfl rfl rfl
    · exact .refl s

/-! ## Banks while frozen (R163) -/

/-- A request flips no bank of a window that is not swap-open while the part is frozen (R24, R163). -/
theorem Replaceable.activeBank_of_frozen {n : WindowNo} {v : Window} (h : s.Replaceable n v) (hf : s.frozen = true)
    (ho : (s.window n).swapOpen = false) : v.activeBank = (s.window n).activeBank := by
  cases h with
  | queued => rfl
  | flipped _ _ _ _ hopen => exact absurd (ho.symm.trans (hopen hf)) nofun
  | deferred => rfl
  | written r hn => exact absurd (hn.symm.trans hf) nofun

/-- While frozen, the bank of a window that is not swap-open stays: no swap of it is pending, and none is taken
(R163). -/
theorem WindowChange.activeBank_of_frozen (h : s.WindowChange t) (hs : FreezeLaw s) (hf : s.frozen = true)
    {w : WindowNo} (ho : (s.window w).swapOpen = false) : (t.window w).activeBank = (s.window w).activeBank := by
  cases h with
  | lowered h =>
    by_contra hb
    exact absurd (ho.symm.trans (hs hf w ((h.windows w).flips hb))) nofun
  | replaced n v hv hw _ =>
    rw [hw]
    split
    · next e => subst e; exact hv.activeBank_of_frozen hf ho
    · rfl
  | froze hw _ _ => rw [hw]

end State

/-- Settles O58: a frozen part is configurable by no port, and its pending swaps are those of swap-open windows. -/
theorem frozenConfigurationKept : Obligations.FrozenConfigurationKept := by
  intro c s t hlaw hf hc he
  have hsame : s.SameSetup t := (State.SetupChange.exec hc he).resolve_right fun ⟨_, hp, _⟩ =>
    absurd (hp.unfrozen.symm.trans hf) nofun
  exact ⟨hsame.frozen.trans hf, hsame.profiles, hsame.manager, fun w => ⟨hsame.windows w,
    (State.WindowChange.exec hc he).activeBank_of_frozen hlaw hf⟩⟩

/-- Settles O59: what is not the same setup is a configuring command of the one port that may configure. -/
theorem onlyTheManagerConfigures : Obligations.OnlyTheManagerConfigures := by
  intro c s t hc he hchange
  obtain hsame | ⟨p, ⟨hpart, rfl, _⟩, hfrom⟩ := State.SetupChange.exec hc he
  · obtain hn | hn | hn | ⟨w, hn⟩ := hchange
    · exact absurd hsame.manager hn
    · exact absurd hsame.frozen hn
    · exact absurd hsame.profiles hn
    · exact absurd (hsame.windows w) hn
  · refine ⟨hpart, ?_⟩
    cases hfrom with
    | windowWrite tag n r => exact .inl ⟨tag, n, r, rfl⟩
    | profileWrite tag n r => exact .inr (.inl ⟨tag, n, r, rfl⟩)
    | freeze tag => exact .inr (.inr (.inl ⟨tag, rfl⟩))
    | handover tag => exact .inr (.inr (.inr (.inl ⟨tag, rfl⟩)))
    | frameEnd x => exact .inr (.inr (.inr (.inr ⟨x, rfl⟩)))

end Sys2Proof.Machine
end

section
/-! SUPPORT. ABORT of a waiting request, of the request of the job in progress, and of a request that is nowhere (R171
to R174). -/

namespace Sys2Proof.Machine

/-- Of two waiting requests of one port the tags differ (R117). -/
theorem TagLaw.queue_unique {s : State} (h : TagLaw s) {q : Port} {r x : Request} (hr : r ∈ s.queue q)
    (hx : x ∈ s.queue q) (htag : x.tag = r.tag) : x = r :=
  have hwaiting := (List.nodup_append.mp (List.nodup_append.mp (h.unanswered_nodup q)).1).1
  List.inj_on_of_nodup_map hwaiting hx hr htag

namespace State

variable {s : State} {p q : Port} {tag u : Byte} {r : Request}

/-! ## The search for the target (R171) -/

/-- The request in a job that an ABORT can meet: of the port, with the tag, not yet marked (R171). -/
theorem jobTarget_eq_some_iff : s.jobTarget q u = some r ↔
    (∃ sel, s.job = some { kind := .request r false, selects := sel }) ∧ r.port = q ∧ r.tag = u := by
  unfold jobTarget
  split
  · next r' sel hj =>
    rw [Option.ite_none_right_eq_some, Option.some_inj, hj]
    constructor
    · rintro ⟨hr, rfl⟩
      exact ⟨⟨sel, rfl⟩, hr⟩
    · rintro ⟨⟨_, e⟩, hr⟩
      cases e
      exact ⟨hr, rfl⟩
  · next hnone => exact ⟨nofun, fun ⟨⟨sel, hj⟩, _⟩ => absurd hj (hnone r sel)⟩

/-- The search among the waiting requests finds none of another tag. -/
theorem find_waiting_eq_none (hq : ∀ r ∈ s.queue q, r.tag ≠ u) : (s.queue q).find? (fun r => r.tag == u) = none :=
  List.find?_eq_none.mpr fun r hr htag => hq r hr (beq_iff_eq.mp htag)

/-- Tags being unique, the search finds the waiting request itself. -/
theorem findTarget_of_waiting (h : TagLaw s) (hr : r ∈ s.queue q) : s.findTarget q r.tag = .waiting r := by
  have hqueue : (s.queue q).find? (fun x => x.tag == r.tag) = some r := by
    cases hx : (s.queue q).find? (fun x => x.tag == r.tag) with
    | none => exact absurd (beq_self_eq_true r.tag) (List.find?_eq_none.mp hx r hr)
    | some x =>
      have htag : (x.tag == r.tag) = true := List.find?_some (p := fun x : Request => x.tag == r.tag) hx
      exact congrArg some (h.queue_unique hr (List.mem_of_find?_eq_some hx) (beq_iff_eq.mp htag))
  rw [findTarget, hqueue]

theorem findTarget_of_job {sel : List SelectPeriod} (hq : ∀ r ∈ s.queue q, r.tag ≠ u)
    (hj : s.job = some { kind := .request r false, selects := sel }) (hport : r.port = q) (htag : r.tag = u) :
    s.findTarget q u = .inJob r := by
  rw [findTarget, find_waiting_eq_none hq, jobTarget_eq_some_iff.mpr ⟨⟨sel, hj⟩, hport, htag⟩]

theorem findTarget_notFound (hq : ∀ r ∈ s.queue q, r.tag ≠ u)
    (hjob : ∀ (r : Request) (sel : List SelectPeriod), s.job = some { kind := .request r false, selects := sel } →
      r.port ≠ q ∨ r.tag ≠ u)
    (hrec : ∀ d, ∀ rec ∈ (s.tracker d).stack, rec.port = q → rec.tag = u → rec.endStatus ≠ none) :
    s.findTarget q u = .notFound := by
  have hnojob : s.jobTarget q u = none := Option.eq_none_iff_forall_ne_some.mpr fun r hr => by
    obtain ⟨⟨sel, hj⟩, hport, htag⟩ := jobTarget_eq_some_iff.mp hr
    exact (hjob r sel hj).elim (· hport) (· htag)
  have hnorecord : s.lowestDevice (fun t => t.stack.any fun x => x.isTarget q u) = none :=
    lowestDevice_none fun d => List.any_eq_false.mpr fun rec hr htarget => by
      obtain ⟨hport, htag, he⟩ := OpRecord.isTarget_iff.mp htarget
      exact hrec d rec hr hport htag he
  rw [findTarget, find_waiting_eq_none hq, hnojob]
  dsimp only
  rw [show allDevices.find? _ = none from hnorecord]

/-! ## The ABORT itself (R171, R172) -/

/-- The port may abort the target's port's requests (R171). -/
theorem abort_allowed (hauth : q = p ∨ p = s.manager) : ¬ (q ≠ p ∧ p ≠ s.manager) :=
  fun ⟨hport, hmanager⟩ => hauth.elim hport hmanager

/-- An ABORT that finds its target acts on it, is answered DONE, and closes its event (R171, R172). -/
theorem exec_abort_found {target : Target} (ha : s.Accepts p tag) (hauth : q = p ∨ p = s.manager)
    (ht : s.findTarget q u = target) (hfound : target ≠ .notFound) :
    exec (.abort p tag q u) s = .next (((((s.accept p).abortTarget q u target).respond p
      (plainResponse .abort tag .done)).writeReceipt p tag .accepted).close) := by
  have htarget : (s.accept p).findTarget q u = target := ht
  refine (powered_intake ha.on ha.verdict_control).trans (congrArg _ ?_)
  rw [abortDo, accept_manager, if_neg (abort_allowed hauth), htarget, ← close_writeReceipt]
  cases target with
  | notFound => exact absurd rfl hfound
  | waiting | inJob | record => rfl

/-- An ABORT that finds no target is answered NOT_FOUND and changes nothing (R171). -/
theorem exec_abort_notFound (h : AttentionLaw s) (ha : s.Accepts p tag) (hauth : q = p ∨ p = s.manager)
    (ht : s.findTarget q u = .notFound) :
    exec (.abort p tag q u) s = .next (s.answered p tag (.response .abort tag .notFound .absent)) := by
  have htarget : (s.accept p).findTarget q u = .notFound := ht
  refine exec_replied h ha ?_
  rw [abortDo, accept_manager, if_neg (abort_allowed hauth), htarget]

/-- A response does not look at the receipts. -/
theorem respond_writeReceipt (s : State) (p : Port) (tag : Byte) (c : ReceiptCode) (q : Port) (m : Message) :
    (s.respond q m).writeReceipt p tag c = (s.writeReceipt p tag c).respond q m := rfl

/-- An answer does not look at the receipts. -/
theorem answer_writeReceipt (s : State) (p : Port) (tag : Byte) (c : ReceiptCode) (q : Port) (m : Message)
    (w : WindowNo) (d : Device) :
    (s.answer q m w d).writeReceipt p tag c = (s.writeReceipt p tag c).answer q m w d :=
  apply_ite (fun t : State => t.writeReceipt p tag c) _ _ _

end State

/-- Settles O27: the tag names the one waiting request, which leaves its queue and is answered before the ABORT. -/
theorem abortTakesWaitingRequest : Obligations.AbortTakesWaitingRequest := by
  intro s p q tag r ha hauth h hr
  have hleft : ((s.accept p).setQueue q ((s.queue q).erase r)).writeReceipt p tag .accepted
      = { s.reserved p tag with queues := s.queues.set q ((s.queue q).erase r) } := rfl
  rw [State.exec_abort_found ha hauth (State.findTarget_of_waiting h hr) nofun, State.respond_writeReceipt,
    State.abortTarget, State.answer_writeReceipt, State.accept_queue, hleft]
  rfl

/-- Settles O28: by what the search finds, the request of the job or nothing. -/
theorem abortMarksJobOrFindsNothing : Obligations.AbortMarksJobOrFindsNothing := by
  intro s p q tag u ha hauth hq
  refine ⟨fun r sel hj hport htag => ?_, fun h hjob hrec =>
    State.exec_abort_notFound h ha hauth (State.findTarget_notFound hq hjob hrec)⟩
  have hmarked : s.job.map Job.mark = some { kind := .request r true, selects := sel } := by rw [hj]; rfl
  have hresponse := State.accept_respond (s := { s with job := some { kind := .request r true, selects := sel } }) p
    (plainResponse .abort tag .done)
  rw [State.exec_abort_found ha hauth (State.findTarget_of_job hq hj hport htag) nofun, State.responded_close,
    State.responded]
  refine Eq.trans ?_ (congrArg (fun t : State => Host.Outcome.next (t.writeReceipt p tag .accepted).close) hresponse)
  rw [State.abortTarget, State.accept_job, hmarked]
  rfl

end Sys2Proof.Machine
end

section
/-! SUPPORT. The clear step and the release of the pin (R180, R183), and cold start from power-on to its end
(R185). -/

namespace Sys2Proof.Machine

/-- The release of the pin makes a RECOVERING tracker want a RESET, and leaves every other one (R183). -/
theorem Tracker.released_eq (t : Tracker) :
    t.released = if t.state = .recovering then { t with wantReset := true } else t := by
  unfold Tracker.released
  split
  · next h => rw [h, beq_self_eq_true, Bool.or_true]
  · next h => rw [beq_false_of_ne h, Bool.or_false]

/-- Settles O31: the clear step is due in the sequence, and the release takes it with the pin. -/
theorem clearStepClears : Obligations.ClearStepClears := by
  intro s hpower hpart
  dsimp only
  refine ⟨fun hclear hpin => ?_, fun hpin => ?_⟩
  · have hdue : s.clearMayBeTaken = true := by
      rw [State.clearMayBeTaken, hpower, hpart, hclear, hpin]
      rfl
    exact congrArg Host.Outcome.next (if_pos hdue)
  · have hrelease : exec .resetPinRelease s = .next s.pinRelease := by
      refine congrArg Host.Outcome.next ((if_pos hpin).trans ?_)
      rw [hpower]
    rw [hrelease, State.pinRelease, funext Tracker.released_eq]
    rfl

/-! ## Cold start (R185) -/

namespace State

variable {s : State}

theorem cold_profile (d : Device) (power : Power) (pin a b : Bool) (l : List Instr) (n : Nat) :
    (cold power pin a b l n).profile d = .absent := by simp [cold, profile]

/-- The links as the end of cold start leaves them (R156). -/
def coldLinks (s : State) : PerPort Link :=
  { a := .cold (s.link .A).asserted, b := .cold (s.link .B).asserted }

/-- The end of cold start, with nothing yet on the outbound units: OPERATING, and RESET_DONE(0) alone on each (R141,
R185). -/
theorem coldEnd_eq (h : ∀ p, s.out p = Outbound.empty) : s.coldEnd = { s with
    power := .on
    resetPin := false
    part := .operating
    outbound := { a := .afterColdStart, b := .afterColdStart }
    links := s.coldLinks } := by
  have hempty : ∀ p, (s.out p).queue = [] ∧ (s.out p).reservations = 0 ∧ (s.out p).notices = .empty := fun p => by
    rw [h p]
    exact ⟨rfl, rfl, rfl⟩
  exact announce_eq (s := { s with power := .on, resetPin := false, links := s.coldLinks }) hempty 0 rfl

/-- The end of cold start leaves every other block alone (R185). -/
theorem coldEnd_frame (h : ∀ p, s.out p = Outbound.empty) : s.coldEnd = { s with
    power := .on
    resetPin := false
    part := .operating
    outbound := s.coldEnd.outbound
    links := s.coldEnd.links } := by
  rw [coldEnd_eq h]

/-- After cold start each outbound unit holds RESET_DONE(0) alone, attention asserted (R141). -/
theorem coldEnd_out (h : ∀ p, s.out p = Outbound.empty) (p : Port) : s.coldEnd.out p = .afterColdStart := by
  rw [coldEnd_eq h]
  cases p <;> rfl

theorem coldEnd_link (p : Port) : s.coldEnd.link p = .cold (s.link p).asserted := by cases p <;> rfl

theorem exec_coldStartEnd (hp : s.power = .coldStart) : exec .coldStartEnd s = .next s.coldEnd :=
  congrArg Host.Outcome.next (if_pos hp)

/-- The release of a pin that holds cold start is its end (R185). -/
theorem exec_resetPinRelease_coldStart (hp : s.power = .coldStart) (hpin : s.resetPin = true) :
    exec .resetPinRelease s = .next s.coldEnd := by
  refine congrArg Host.Outcome.next ((if_pos hpin).trans ?_)
  rw [hp]

/-- Cold start with no pin held and no select asserted ends in the reset state (assumption 3). -/
theorem coldEnd_cold (l : List Instr) (n : Nat) : (cold .coldStart false false false l n).coldEnd
    = { State.reset with pending := l, freeCount := n } :=
  coldEnd_eq fun p => cold_out p ..

end State

/-- A select asserted at power-on or at the end of cold start is no frame (R143, assumption 7). -/
theorem Link.cold_select (b : Bool) : (Link.cold b).select = if b then .ignored else .released := rfl

theorem Link.cold_asserted_select (l : Link) :
    (Link.cold l.asserted).select = if l.select = .released then .released else .ignored := by
  by_cases h : l.select = .released
  · rw [cold_select, asserted, h]
    rfl
  · rw [cold_select, asserted, bne_iff_ne.mpr h, if_neg h, if_pos rfl]

/-- Settles O3: the cold values block by block, the end of cold start, and both of them in turn. -/
theorem coldStart : Obligations.ColdStart := by
  refine ⟨⟨fun pin a b s => ⟨_, rfl, rfl, rfl, rfl, rfl, rfl, rfl, rfl, rfl, rfl, rfl,
      fun w => State.cold_window w .., fun d => State.cold_profile d .., fun d => State.cold_tracker d ..,
      fun p => ⟨State.cold_queue p .., State.cold_out p .., ?_⟩, Link.cold_select a, Link.cold_select b⟩,
    fun s s' hpending hfree => ⟨?_, _, rfl, rfl, rfl⟩⟩, fun s hp hout => ?_, fun s => ?_⟩
  · cases p <;> exact ⟨rfl, rfl, rfl, rfl, rfl, rfl⟩
  · change execPowerOff s = execPowerOff s'
    rw [execPowerOff, execPowerOff, hpending, hfree]
  · refine ⟨s.coldEnd, State.exec_coldStartEnd hp, State.exec_resetPinRelease_coldStart hp,
      State.coldEnd_frame hout, fun p => ?_⟩
    rw [State.coldEnd_out hout, State.coldEnd_link]
    refine ⟨rfl, rfl, rfl, rfl, rfl, rfl, fun hreleased => ?_, fun hasserted => ?_⟩
    · rw [Link.cold_asserted_select, if_pos hreleased]
    · rw [Link.cold_asserted_select, if_neg hasserted]
  · exact congrArg Host.Outcome.next (State.coldEnd_cold s.pending s.freeCount)

/-! ## The laws at reset (R6, R68, R141, R185) -/

namespace State

/-- The reset state is the end of a cold start (assumption 3). -/
theorem reset_eq : (cold .coldStart false false false [] 0).coldEnd = State.reset := coldEnd_cold [] 0

theorem reset_ledger : State.reset.Ledger [] :=
  reset_eq ▸ Ledger.coldEnd (.of_cold .coldStart false false false [] 0) nofun

theorem reset_tracked : State.reset.Tracked :=
  reset_eq ▸ Tracked.coldEnd (.of_cold .coldStart false false false [] 0) (cold_tracked .coldStart nofun ..) nofun

theorem reset_outboundLaws : OutboundLaws State.reset := reset_eq ▸ (OutboundLaws.of_cold ..).coldEnd

theorem reset_window (w : WindowNo) : State.reset.window w = .empty := cold_window w .on false false false [] 0

theorem reset_queue (p : Port) : State.reset.queue p = [] := by cases p <;> rfl

/-- RESET_DONE makes no tag outstanding (R117). -/
theorem reset_outstandingTags (p : Port) : State.reset.outstandingTags p = [] := by cases p <;> rfl

end State

/-- Settles O56: the end of a cold start keeps the laws that hold with every block cold. -/
theorem resetMeetsTheLaws : Obligations.ResetMeetsTheLaws := by
  refine ⟨ledgerLaw_iff.mpr State.reset_ledger, State.reset_outboundLaws, fun p => ?_, fun p => ?_,
    State.windowLaws_of_empty State.reset_window, trackerLaws_iff.mpr ⟨State.reset_ledger, State.reset_tracked⟩⟩
  · rw [State.reset_queue]
    exact Nat.zero_le _
  · rw [State.reset_outstandingTags]
    exact List.nodup_nil

end Sys2Proof.Machine
end

section
/-! SUPPORT. The queue of waiting commands: no operation of the part touches it, so that every command answers a next
state with the same queue (95, one command at a time; assumptions 1 and 2). -/

namespace Sys2Proof.Machine
namespace State

variable {s t u : State}

/-! ## Answers, quarantine and poll results -/

@[simp] theorem answer_pending (p : Port) (m : Message) (w : WindowNo) (d : Device) :
    (s.answer p m w d).pending = s.pending := by rw [answer_frame]

@[simp] theorem answerRecord_pending (d : Device) (rec : OpRecord) (st : Status) :
    (s.answerRecord d rec st).pending = s.pending := answer_pending ..

@[simp] theorem answerAll_pending (d : Device) (l : List OpRecord) : (s.answerAll d l).pending = s.pending := by
  induction l generalizing s with
  | nil => rfl
  | cons rec l ih => exact ih.trans (answerRecord_pending ..)

@[simp] theorem answerFaults_pending (l : List Request) : (s.answerFaults l).pending = s.pending := by
  induction l generalizing s with
  | nil => rfl
  | cons r l ih => exact ih.trans (answer_pending ..)

@[simp] theorem drain_pending (d : Device) (p : Port) : (s.drain d p).pending = s.pending :=
  answerFaults_pending _

@[simp] theorem quarantine_pending (d : Device) : (s.quarantine d).pending = s.pending := by simp [quarantine]

@[simp] theorem resetDone_pending (d : Device) : (s.resetDone d).pending = s.pending := answerAll_pending ..

@[simp] theorem answerTop_pending (d : Device) (st : EndStatus) : (s.answerTop d st).pending = s.pending := by
  unfold answerTop
  split
  · exact answerRecord_pending ..
  · rfl

@[simp] theorem pollResult_pending (d : Device) (b : Byte) : (s.pollResult d b).pending = s.pending := by
  unfold pollResult
  dsimp only
  split
  · rfl
  · rfl
  · rfl
  · exact answerTop_pending ..

/-! ## What an accepted request does -/

@[simp] theorem reply_pending (p : Port) (k : RequestKind) (tag : Byte) (st : Status) (data : ResponseData) :
    (s.reply p k tag st data).pending = s.pending := rfl

@[simp] theorem refuse_pending (p : Port) (tag : Byte) (k : RequestKind) (st : Status) (w : Option WindowNo) :
    (s.refuse p tag k st w).pending = s.pending := by
  unfold refuse raiseDenialNotice
  dsimp only
  split
  · split <;> rfl
  · rfl

@[simp] theorem enqueue_pending (r : Request) : (s.enqueue r).pending = s.pending := rfl

@[simp] theorem memoryRequest_pending (p : Port) (tag : Byte) (a : Word) (ask : Ask) :
    (s.memoryRequest p tag a ask).pending = s.pending := by
  unfold memoryRequest
  rw [close_pending]
  split
  · exact refuse_pending ..
  · exact enqueue_pending _

@[simp] theorem windowWriteDo_pending (p : Port) (tag : Byte) (n : Word) (r : WindowRecord) :
    (s.windowWriteDo p tag n r).pending = s.pending := by
  unfold windowWriteDo
  split <;> rfl

@[simp] theorem windowReadDo_pending (p : Port) (tag : Byte) (n : Word) :
    (s.windowReadDo p tag n).pending = s.pending := by
  unfold windowReadDo
  split
  · rfl
  · split <;> rfl

@[simp] theorem swapDo_pending (p : Port) (tag : Byte) (n : Word) : (s.swapDo p tag n).pending = s.pending := by
  unfold swapDo
  split
  · rfl
  · dsimp only
    split <;> rfl

@[simp] theorem profileWriteDo_pending (p : Port) (tag : Byte) (n : Word) (r : ProfileRecord) :
    (s.profileWriteDo p tag n r).pending = s.pending := by
  unfold profileWriteDo
  split
  · rfl
  · rw [reply_pending, setTracker_pending, setProfile_pending]

@[simp] theorem profileReadDo_pending (p : Port) (tag : Byte) (n : Word) :
    (s.profileReadDo p tag n).pending = s.pending := by
  unfold profileReadDo
  split <;> rfl

@[simp] theorem freezeDo_pending (p : Port) (tag : Byte) : (s.freezeDo p tag).pending = s.pending := by
  unfold freezeDo
  split
  · rfl
  · split <;> rfl

@[simp] theorem handoverDo_pending (p : Port) (tag : Byte) : (s.handoverDo p tag).pending = s.pending := by
  unfold handoverDo
  split
  · rfl
  · split
    · rfl
    · simp only [close_pending, raise_pending, respond_pending]

@[simp] theorem statusReadDo_pending (p : Port) (tag : Byte) (c : Bool) :
    (s.statusReadDo p tag c).pending = s.pending := by
  unfold statusReadDo
  split
  · rfl
  · cases c <;> rfl

@[simp] theorem abortTarget_pending (p : Port) (tag : Byte) (target : Target) :
    (s.abortTarget p tag target).pending = s.pending := by
  cases target with
  | waiting r => exact answer_pending ..
  | notFound | inJob | record => rfl

@[simp] theorem abortDo_pending (p : Port) (tag : Byte) (q : Port) (x : Byte) :
    (s.abortDo p tag q x).pending = s.pending := by
  unfold abortDo
  split
  · rfl
  · split
    · rfl
    · rw [close_pending, respond_pending, abortTarget_pending]

@[simp] theorem warmResetDo_pending (p : Port) (tag : Byte) (e : Half) :
    (s.warmResetDo p tag e).pending = s.pending := by
  unfold warmResetDo
  split
  · rfl
  · split <;> rfl

/-! ## Intake and frames -/

@[simp] theorem carryOut_pending (p : Port) (tag : Byte) (q : FrameRequest) :
    (q.carryOut p tag s).pending = s.pending := by
  cases q <;> simp [FrameRequest.carryOut]

/-- Neither a refusal nor an acceptance by intake touches the queue (R121, R122). -/
@[simp] theorem handRequest_pending (p : Port) (tag : Byte) (q : FrameRequest) :
    (s.handRequest p tag q).pending = s.pending := by
  rw [handRequest_eq]
  obtain ⟨_, e⟩ | ⟨_, e⟩ := s.intake_cases p tag q.group (q.carryOut p tag)
  · rw [e, writeReceipt_pending]
  · rw [e, writeReceipt_pending, carryOut_pending, accept_pending]

@[simp] theorem frameBegin_pending (p : Port) : (s.frameBegin p).pending = s.pending := by
  unfold frameBegin
  split <;> rfl

@[simp] theorem inboundByte_pending (p : Port) (b : Byte) : (s.inboundByte p b).pending = s.pending := by
  unfold inboundByte
  dsimp only
  split <;> rfl

@[simp] theorem frameEndWork_pending (p : Port) (f : Frame) (x : Fin 8) :
    (s.frameEndWork p f x).pending = s.pending := by
  unfold frameEndWork
  dsimp only
  obtain ⟨links, outbound, e⟩ := s.removal_moveNotices_frame p _ f
  rw [e, driveAttention_pending]
  split
  · exact handRequest_pending ..
  · rfl

@[simp] theorem frameEnd_pending (p : Port) (x : Fin 8) : (s.frameEnd p x).pending = s.pending := by
  unfold frameEnd
  split
  · rfl
  · rfl
  · exact frameEndWork_pending ..

/-! ## The bus -/

@[simp] theorem grant_pending (k : JobKind) : (s.grant k).pending = s.pending := by cases k <;> rfl

@[simp] theorem busGrant_pending : s.busGrant.pending = s.pending := by
  unfold busGrant
  split
  · rw [reconsider_pending, grant_pending]
  · rfl

@[simp] theorem readJobComplete_pending (l : List Byte) : (s.readJobComplete l).pending = s.pending := by
  unfold readJobComplete
  split
  · split
    · dsimp only
      split
      · rfl
      · rw [close_pending, answer_pending, countFree_pending, setJob_pending]
    · rfl
  · rfl

@[simp] theorem startJobComplete_pending : s.startJobComplete.pending = s.pending := by
  unfold startJobComplete
  split
  · split
    · rfl
    · dsimp only
      split <;> rfl
  · rfl

@[simp] theorem pollComplete_pending (b : Option Byte) : (s.pollComplete b).pending = s.pending := by
  unfold pollComplete
  split
  · dsimp only
    split
    · rfl
    · rw [close_pending, pollResult_pending, countFree_pending, setJob_pending]
  · rfl

@[simp] theorem suspendComplete_pending : s.suspendComplete.pending = s.pending := by
  unfold suspendComplete
  split
  · dsimp only
    split <;> rfl
  · rfl

@[simp] theorem resumeComplete_pending : s.resumeComplete.pending = s.pending := by
  unfold resumeComplete
  split
  · dsimp only
    split <;> rfl
  · rfl

@[simp] theorem resetJobComplete_pending : s.resetJobComplete.pending = s.pending := by
  unfold resetJobComplete
  split
  · dsimp only
    split
    · rfl
    · rw [close_pending, resetDone_pending, setJob_pending]
  · rfl

/-! ## Every command -/

/-- The outcome is a next state with the same commands waiting as before. -/
def KeepsQueue (s : State) (o : Host.Outcome State Fault Refusal) : Prop :=
  ∃ t, o = .next t ∧ t.pending = s.pending

theorem KeepsQueue.next (h : t.pending = s.pending) : s.KeepsQueue (.next t) := ⟨t, rfl, h⟩

/-- Without power the state itself is the answer (assumption 4). -/
theorem KeepsQueue.powered (h : t.pending = s.pending) : s.KeepsQueue (s.powered t) := by
  refine .next ?_
  split
  · rfl
  · exact h

theorem KeepsQueue.request {c : Instr} {p : Port} {tag : Byte} {q : FrameRequest}
    (hc : handed c = some (p, tag, q)) : s.KeepsQueue (exec c s) :=
  exec_handed hc ▸ .powered (handRequest_pending p tag q)

theorem KeepsQueue.exec (c : Instr) (s : State) : s.KeepsQueue (exec c s) := by
  cases c with
  | coldStart | powerOff => exact .next rfl
  | coldStartEnd | clearStep | resetSequenceEnd =>
    refine .next ?_
    split <;> rfl
  | resetPinAssert =>
    refine .next ?_
    split
    · rfl
    · rfl
    · split <;> rfl
  | resetPinRelease =>
    refine .next ?_
    split
    · split <;> rfl
    · rfl
  | null | read | program | erase | windowWrite | windowRead | profileWrite | profileRead | swap | freeze | handover
  | statusRead | abort | warmReset => exact .request rfl
  | frameBegin p => exact .powered (frameBegin_pending p)
  | inboundByte p b => exact .powered (inboundByte_pending p b)
  | frameEnd p x => exact .powered (frameEnd_pending p x)
  | busGrant => exact .powered busGrant_pending
  | readJobComplete l => exact .powered (readJobComplete_pending l)
  | startJobComplete => exact .powered startJobComplete_pending
  | pollComplete b => exact .powered (pollComplete_pending b)
  | suspendComplete => exact .powered suspendComplete_pending
  | resumeComplete => exact .powered resumeComplete_pending
  | resetJobComplete => exact .powered resetJobComplete_pending
  | timeBaseTick => exact .powered rfl
  | clkPeriod | pollTimerExpiry | deadlineExpiry | suspendSettleExpiry =>
    refine .powered ?_
    split <;> rfl
  | resetSettleExpiry d =>
    refine .powered ?_
    split
    · split
      · exact quarantine_pending d
      · rfl
    · rfl

end State

/-- Settles O1, by the two cases of the queue that step tells apart. -/
theorem stepTakesFrontCommand : Obligations.StepTakesFrontCommand := by
  constructor
  · intro c rest s h
    rw [step, h]
  · intro s h
    rw [step, h]

/-- Settles O2: each command's meaning is a next state, made by operations that leave the queue. -/
theorem commandsAnswerAndKeepQueue : Obligations.CommandsAnswerAndKeepQueue := State.KeepsQueue.exec

end Sys2Proof.Machine
end
